-- ==== Sys2Proof/Word.lean ====
section
/-! DEFINITION. Word: the widths ASMS works at (R6, R71) and their plainest arithmetic. -/

namespace Sys2Proof

/-- A byte of the device or of the data bus: "8-bit value, no sign" (R6, R9). -/
abbrev Byte := BitVec 8

/-- The 16 bits of the address port, of the frame register, of SR and of OUT (R6, R25, R28, R29). -/
abbrev Half := BitVec 16

/-- One request word on the request port (R71). -/
abbrev Word := BitVec 32

/-- `{v[14:0], b}`: one place towards bit 15, with `b` entering at bit 0 (R28). -/
def shiftIn16 (v : Half) (b : Bool) : Half := v.extractLsb' 0 15 ++ BitVec.ofBool b

/-- `{v[6:0], b}`: one place towards bit 7, with `b` entering at bit 0 (R32). -/
def shiftIn8 (v : Byte) (b : Bool) : Byte := v.extractLsb' 0 7 ++ BitVec.ofBool b

/-- `v` with bit `i` replaced by `b` (R31, `DOUT[i] <- b`). -/
def setBit8 (v : Byte) (i : Nat) (b : Bool) : Byte :=
  if b then v ||| (1#8 <<< i) else v &&& ~~~(1#8 <<< i)

end Sys2Proof
end

