-- ==== Sys2Proof/Syntax.lean ====
section
/-! DEFINITION. Syntax: the three request kinds of ASMS (R70), one constructor for each row of
spec/opcode_table.json. -/

namespace Sys2Proof

/-- A request (R70). Its operands have exactly the widths of the request word's fields (R71), so a
term that the encoding does not admit cannot be written. -/
inductive Instr
  /-- SET_ADDRESS: the address and the output-enable flag (R100). -/
  | setaddr (a : Half) (oe : Bool)
  /-- READ_BYTE: the cell's address (R127). -/
  | rdb (a : Half)
  /-- WRITE_BYTE: the cell's address and the value (R134). -/
  | wrb (a : Half) (v : Byte)
  deriving DecidableEq, Repr

end Sys2Proof
end

