-- ==== Sys2Proof/WellFormed.lean ====
section
/-! DEFINITION. WellFormed: which instruction terms and which assembly terms are well formed. An
`Instr` is well formed by its types; the assembly terms of R80 carry plain numbers and are checked. -/

namespace Sys2Proof

/-- Every request term is one the encoding admits: R71's fields are as wide as its operands, and R74
scales, offsets and extends none of them. Whether an address is in range is no matter of form: an
address above MAX_ADDR decodes and then faults (R156). -/
def Instr.wellFormed : Instr → Bool
  | .setaddr _ _ => true
  | .rdb _ => true
  | .wrb _ _ => true

/-- A line of request assembly or a pseudo-instruction (R80), with the numbers as they are written. -/
inductive Source
  /-- `SETADDR <addr>, <oe>`. -/
  | setaddr (addr oe : Nat)
  /-- `RDB <addr>`. -/
  | rdb (addr : Nat)
  /-- `WRB <addr>, <value>`. -/
  | wrb (addr value : Nat)
  /-- `DUMP <max>`. -/
  | dump (max : Nat)
  /-- `ERASE <max>`. -/
  | erase (max : Nat)
  /-- `WRBLK [b0, ..., bn]`. -/
  | wrblk (bytes : List Nat)
  deriving DecidableEq, Repr

/-- "It must fit 16 bits; a larger number is an assembly error" (R80). -/
def Source.addrOk (n : Nat) : Bool := decide (n < 2 ^ 16)

/-- "`<value>` is a number from 0 to 255" (R80). -/
def Source.valueOk (n : Nat) : Bool := decide (n < 2 ^ 8)

/-- "`<oe>` is 1 or 0" (R80). -/
def Source.oeOk (n : Nat) : Bool := decide (n < 2)

/-- The operands of an assembly term are in range (R80). The addresses that a pseudo-instruction's
expansion names must fit 16 bits too, since it means no more than its expansion. -/
def Source.wellFormed : Source → Bool
  | .setaddr a e => Source.addrOk a && Source.oeOk e
  | .rdb a => Source.addrOk a
  | .wrb a v => Source.addrOk a && Source.valueOk v
  | .dump m => Source.addrOk m
  | .erase m => Source.addrOk m
  | .wrblk bs => decide (bs.length ≤ 2 ^ 16) && bs.all Source.valueOk

end Sys2Proof
end

