-- ==== Sys2Proof/Decode.lean ====
section
/-! DEFINITION. Decode: from a request word to a request or to the name of what is wrong with it
(R71 to R75), and the encoder from the same fields. -/

namespace Sys2Proof

/-- Why a request word is illegal (R73). -/
inductive DecodeError
  /-- OP = 00, "wholly reserved" (R79). -/
  | reservedOp
  /-- RSV is not 0. -/
  | reservedBits
  /-- E is not 0 in a READ_BYTE or a WRITE_BYTE. -/
  | unusedEnable
  /-- V is not 0 in a SET_ADDRESS or a READ_BYTE. -/
  | unusedValue
  deriving DecidableEq, Repr

/-- OP, bits 31:30 (R71). -/
def opField (w : Word) : BitVec 2 := w.extractLsb' 30 2

/-- RSV, bits 29:25 (R71). -/
def rsvField (w : Word) : BitVec 5 := w.extractLsb' 25 5

/-- E, bit 24 (R71). -/
def enableField (w : Word) : Bool := w.getLsbD 24

/-- A, bits 23:8 (R71, R74). -/
def addrField (w : Word) : Half := w.extractLsb' 8 16

/-- V, bits 7:0 (R71, R74). -/
def valueField (w : Word) : Byte := w.extractLsb' 0 8

/-- `legal(w)` as R72 writes it. -/
def legalWord (w : Word) : Bool :=
  opField w != 0#2 && rsvField w == 0#5 &&
  (opField w == 1#2 || enableField w == false) &&
  (opField w == 3#2 || valueField w == 0#8)

/-- The decoder: total, and exact about why a word is refused (R72, R73, R79). -/
def decode (w : Word) : Except DecodeError Instr :=
  if opField w = 0#2 then .error .reservedOp
  else if rsvField w ≠ 0#5 then .error .reservedBits
  else if opField w = 1#2 then
    if valueField w ≠ 0#8 then .error .unusedValue
    else .ok (.setaddr (addrField w) (enableField w))
  else if enableField w then .error .unusedEnable
  else if opField w = 2#2 then
    if valueField w ≠ 0#8 then .error .unusedValue
    else .ok (.rdb (addrField w))
  else .ok (.wrb (addrField w) (valueField w))

/-- A request word from its fields, each at its bits (R71), with RSV = 0. -/
def packWord (op : BitVec 2) (e : Bool) (a : Half) (v : Byte) : Word :=
  (op.setWidth 32 <<< 30) ||| ((BitVec.ofBool e).setWidth 32 <<< 24) ||| (a.setWidth 32 <<< 8) |||
    v.setWidth 32

/-- The word of a request, by the pattern strings of R71. -/
def encode : Instr → Word
  | .setaddr a e => packWord 1#2 e a 0#8
  | .rdb a => packWord 2#2 false a 0#8
  | .wrb a v => packWord 3#2 false a v

/-- One row of R72's table of matches and masks. -/
structure OpcodeRow where
  word : Word
  mask : Word
  deriving DecidableEq, Repr

/-- R72's table: SET_ADDRESS, READ_BYTE, WRITE_BYTE. -/
def opcodeRows : List OpcodeRow :=
  [⟨0x40000000#32, 0xFE0000FF#32⟩, ⟨0x80000000#32, 0xFF0000FF#32⟩, ⟨0xC0000000#32, 0xFF000000#32⟩]

/-- `(w & mask) == match` (R72). -/
def OpcodeRow.matches (r : OpcodeRow) (w : Word) : Bool := (w &&& r.mask) == r.word

/-- The request word whose low `nbits` bits are those of `w` and whose other bits are 0. -/
def wordOfBits (nbits w : Nat) : Word := BitVec.ofNat 32 (w % 2 ^ nbits)

/-- The request that the decoder reads from `nbits` bits `w` of the opcode table's numbering. A
request is exactly one 32-bit word (R75), so bit 0 of the word is bit 0 of the port. -/
def decodeTableWord (nbits w : Nat) : Option Instr :=
  if 32 < nbits then none else (decode (wordOfBits nbits w)).toOption

end Sys2Proof
end

