-- ==== Sys2Proof/Config.lean ====
section
/-! DEFINITION. Config: the parameters of a run (R5, R7, R8, R39), the two named assumptions about the
device (R58, R123) and the free values `draw()` (R10). -/

namespace Sys2Proof

/-- VARIANT, the device's capacity (R5). -/
inductive Variant
  | kb8
  | kb32
  deriving DecidableEq, Repr

/-- MAX_ADDR, the highest device address of a variant (R5). -/
def Variant.maxAddr : Variant → Half
  | .kb8 => 0x1FFF#16
  | .kb32 => 0x7FFF#16

/-- DEV_SETTLE_NS, the device's settle delay in nanoseconds (R56). -/
def devSettleNs : Nat := 6000000

/-- The least width of the write-enable pulse in nanoseconds (R8). -/
def minWeNs : Nat := 1000

/-- The configuration of a run (R39): "fixed for a run and not state". Here it is carried with the
state, and no step writes it (log 3). -/
structure Config where
  /-- VARIANT (R5). -/
  variant : Variant
  /-- P_TICK, the period of CLK in nanoseconds (R7). -/
  pTick : Nat
  /-- P_WE_TICKS, how many ticks WE_n is held low (R8). -/
  pWeTicks : Nat
  /-- P_SETTLE_TICKS, the settle delay in ticks (R8). -/
  pSettleTicks : Nat
  /-- P_READ_SETUP_TICKS, the wait between the latch and the first sample (R8, R123). -/
  pReadSetupTicks : Nat
  /-- DEVICE_RETAINS, the named assumption that a cell keeps what was written to it (R58, U8; log 13). -/
  deviceRetains : Bool
  /-- How many ticks after LATCH the device needs before its data is valid (R123, U14): the spec's
  assumption is 0 (DESIGN CHOICE that it is a number of ticks, log 14). -/
  accessTicks : Nat
  deriving DecidableEq, Repr

/-- MAX_ADDR of a configuration (R5). -/
def Config.maxAddr (c : Config) : Half := c.variant.maxAddr

/-- A valid configuration: the bounds of R8 hold, P_TICK is positive (R7), and every count fits the
32-bit TIMER (R23). -/
def Config.valid (c : Config) : Bool :=
  decide (1 ≤ c.pTick) && decide (1 ≤ c.pWeTicks) && decide (1 ≤ c.pSettleTicks) &&
  decide (minWeNs ≤ c.pWeTicks * c.pTick) && decide (devSettleNs ≤ c.pSettleTicks * c.pTick) &&
  decide (c.pWeTicks < 2 ^ 32) && decide (c.pSettleTicks < 2 ^ 32) &&
  decide (c.pReadSetupTicks < 2 ^ 32)

/-- The reference configuration (R8), with both assumptions about the device as the spec makes them
(R58 DEVICE_RETAINS, R123 "data is valid by the first sample"). -/
def Config.reference : Config where
  variant := .kb32
  pTick := 1000
  pWeTicks := 1
  pSettleTicks := 6000
  pReadSetupTicks := 0
  deviceRetains := true
  accessTicks := 0

/-! The free values, `draw()` of R10: "a free value under no law". Each is applied to the number of the
tick it is drawn in, and nothing is known of its value (log 5). -/

/-- What D[7:0] carries in a tick in which the device does not drive it alone (R34, U2). -/
opaque Config.drawBus : Nat → Byte

/-- What the device captures at a WE_n rising edge when the controller does not drive the lines alone
(R56, R170, U7). -/
opaque Config.drawWrite : Nat → Byte

/-- What a cell takes that fails to retain the byte written to it (R58, U8; log 13). -/
opaque Config.drawCell : Nat → Byte

/-- What the caller reads on `rdata` while RDATA_VALID = 0 (R26, U4; log 15). -/
opaque Config.drawPort : Nat → Byte

/-- What a cell holds at the next power-up whose write was cut off by a power loss (R176, U9). -/
opaque Config.drawLoss : Nat → Byte

/-- What a register holds at power-up to which nothing gives a value (R43, R174, U5, U6); the second
argument tells the registers apart (log 18). -/
opaque Config.drawPowerUp : Nat → Nat → Half

end Sys2Proof
end

