-- ==== Sys2Proof/Machine/State.lean ====
section
/-! DEFINITION. State: everything the spec gives ASMS and its memory device (R20 to R40), as plain data;
the reasons a step can stop; the state after reset (R43, R175). -/

namespace Sys2Proof.Machine

/-- STATE, the sequencer state register (R21). Its codes 12 to 15 are "unused. No rule enters them",
and have no constructor here. -/
inductive SeqState
  | idle
  | dirIn
  | dirOut
  | shift
  | latch
  | rdWait
  | rdSample
  | wrDrive
  | wrWeLow
  | wrSettle
  | done
  | fault
  deriving DecidableEq, Repr

/-- The 4-bit encoding of STATE (R21). -/
def SeqState.code : SeqState → BitVec 4
  | .idle => 0#4
  | .dirIn => 1#4
  | .dirOut => 2#4
  | .shift => 3#4
  | .latch => 4#4
  | .rdWait => 5#4
  | .rdSample => 6#4
  | .wrDrive => 7#4
  | .wrWeLow => 8#4
  | .wrSettle => 9#4
  | .done => 10#4
  | .fault => 11#4

/-- DDIR, the direction of the controller's data pins (R30): IN is 0 and OUT is 1. -/
inductive Dir
  | input
  | output
  deriving DecidableEq, Repr

/-- An event of the observation trace (R40). -/
inductive Event
  /-- A request is accepted, with the raw fields of its word (R125). -/
  | accept (op : BitVec 2) (addr : Half) (oe : Bool) (data : Byte)
  /-- DDIR is written (R130, R135). -/
  | dir (d : Dir)
  /-- One SRCLK pulse with SER = b (R103). -/
  | shift (b : Bool)
  /-- One RCLK pulse; OUT becomes v (R104). -/
  | latch (v : Half)
  /-- RD_SAMPLE step i read D_IN[7-i] = b (R131). -/
  | sample (i : Nat) (b : Bool)
  /-- WR_DRIVE step i set DOUT[i] = b (R136). -/
  | drive (i : Nat) (b : Bool)
  /-- WE_n goes 1 to 0 (R136). -/
  | weFall
  /-- WE_n goes 0 to 1 (R137, R170). -/
  | weRise
  /-- The DONE tick; r is RDATA for READ_BYTE, else none (R133). -/
  | done (op : BitVec 2) (r : Option Byte)
  /-- Fault entry (R152). -/
  | fault (code : BitVec 2)
  /-- Controller and device both drive D[7:0] at the end of a tick (R120 step 4, R181). -/
  | contend
  deriving DecidableEq, Repr

/-- A device write still settling: cell, byte, nanoseconds left (R37). -/
structure PendingWrite where
  addr : BitVec 15
  value : Byte
  remaining : Nat
  deriving DecidableEq, Repr

/-- The block's inputs in one tick (R120): RESET, `req_valid` and `req_word`. -/
structure Input where
  reset : Bool
  reqValid : Bool
  reqWord : Word
  deriving DecidableEq, Repr

/-- All input lines at 0: what a tick sees after the schedule of inputs has run out (log 2). -/
def Input.quiet : Input := ⟨false, false, 0#32⟩

/-- MEM as (address, byte) pairs in canonical form (R36; `Memory.wf` of Machine/Ops.lean). -/
abbrev Memory := List Host.Cell

/-- The state record of R20: the registers of R21 to R33, the device state of R36 and R37, the trace of
R40; and the model's own fields `inputs`, `ticks` and `cfg` (log 2, 5, 3). -/
structure State where
  /-- STATE (R21). -/
  state : SeqState
  /-- IDX (R22). -/
  idx : BitVec 4
  /-- TIMER (R23). -/
  timer : BitVec 32
  /-- OP (R24). -/
  op : BitVec 2
  /-- ADDR (R24). -/
  addr : Half
  /-- OE (R24). -/
  oe : Bool
  /-- DATA (R24). -/
  data : Byte
  /-- F (R25). -/
  frame : Half
  /-- RDATA (R26). -/
  rdata : Byte
  /-- RDATA_VALID (R26). -/
  rdataValid : Bool
  /-- FAULT_CODE (R27). -/
  faultCode : BitVec 2
  /-- SR, {SR_HI, SR_LO} (R28). -/
  sr : Half
  /-- OUT, {OUT_HI, OUT_LO}; bit 15 is OE_n (R29). -/
  out : Half
  /-- DDIR (R30). -/
  ddir : Dir
  /-- DOUT (R31). -/
  dout : Byte
  /-- ACC (R32). -/
  acc : Byte
  /-- SER (R33). -/
  ser : Bool
  /-- SRCLK (R33). -/
  srclk : Bool
  /-- RCLK (R33). -/
  rclk : Bool
  /-- WE_n (R33). -/
  weN : Bool
  /-- MEM (R36). -/
  mem : Memory
  /-- PENDING (R37). -/
  pending : Option PendingWrite
  /-- The device is stuck (R57): every tick without RESET is the same state (R120; log 9, and log 25 for a power
  loss). -/
  deviceStuck : Bool
  /-- The observation trace, oldest event first (R40). -/
  trace : List Event
  /-- The model's own: the inputs of the ticks to come, the next one first (R120; log 2). -/
  inputs : List Input
  /-- The model's own: the number of this tick, which names its free values (R10; log 5). No hardware
  counter: ASMS has none (R162). -/
  ticks : Nat
  /-- The model's own: the configuration of the run (R39; log 3). -/
  cfg : Config
  deriving DecidableEq, Repr

/-- Why a step stops with a fault. The faults of the spec (R150) are NO faults of this type: fault
entry is a next state, as R152 describes it (log 8). -/
inductive Fault
  /-- The sequencer is in a state from which no rule gives an action: IDX above 7 in RD_SAMPLE or
  WR_DRIVE (R131 and R136 cover 0 to 7), or OP = 00 in LATCH (R104 has no such case). Raised by the
  tick of those states; no run from reset reaches one. Safe: the model stops (log 12). -/
  | noRule
  deriving DecidableEq, Repr

/-- Why a step is refused. -/
inductive Refusal
  /-- An instruction that has no meaning yet, by its mnemonic. Raised by no arm of this model. Safe. -/
  | notModelled (mnemonic : String)
  /-- The configuration breaks a bound of R8 or R23: "no run of ASMS exists for it". Raised by `step`.
  Safe: nothing can be proved of such a run (log 4). -/
  | invalidConfig
  deriving DecidableEq, Repr

/-- The machine right after reset, at the start of a run (R43, R175), under the reference
configuration of R8. OP, ADDR, OE, DATA, F, SR, OUT, DOUT, ACC and RDATA, whose values R43 leaves
unspecified, are 0 here (DESIGN CHOICE, log 6); Machine/Power.lean's `powerUp` gives them free values.The
device is not stuck (DESIGN CHOICE, log 25). -/
def State.reset : State where
  state := .idle
  idx := 0#4
  timer := 0#32
  op := 0#2
  addr := 0#16
  oe := false
  data := 0#8
  frame := 0#16
  rdata := 0#8
  rdataValid := false
  faultCode := 0#2
  sr := 0#16
  out := 0#16
  ddir := .input
  dout := 0#8
  acc := 0#8
  ser := false
  srclk := false
  rclk := false
  weN := true
  mem := []
  pending := none
  deviceStuck := false
  trace := []
  inputs := []
  ticks := 0
  cfg := Config.reference

end Sys2Proof.Machine
end

