-- ==== Sys2Proof/Machine/Operands.lean ====
section
/-! DEFINITION. Operands: what a request's operands become: the frames of an address message (R76, R101),
and the address that the device sees (R29). -/

namespace Sys2Proof.Machine

/-- Frame 1, `(addr >> 8)[7:0] | (oe ? 0x00 : 0x80)` (R101). -/
def frame1 (addr : Half) (oe : Bool) : Byte :=
  (addr >>> 8).setWidth 8 ||| (if oe then 0x00#8 else 0x80#8)

/-- Frame 2, `addr & 0xFF` (R101). -/
def frame2 (addr : Half) : Byte := (addr &&& 0xFF#16).setWidth 8

/-- `frames(addr, oe)`, `{frame1, frame2}` (R101). -/
def frames (addr : Half) (oe : Bool) : Half := frame1 addr oe ++ frame2 addr

/-- OE_n, the device's active-low output enable, is OUT[15] (R29). -/
def State.oeN (s : State) : Bool := s.out.getLsbD 15

/-- DEVADDR, the address the device sees: `OUT[14:0] & MAX_ADDR` (R29). -/
def State.devAddr (s : State) : BitVec 15 :=
  s.out.extractLsb' 0 15 &&& s.cfg.maxAddr.setWidth 15

end Sys2Proof.Machine
end

