-- ==== Sys2Proof/Machine/Flags.lean ====
section
/-! DEFINITION. Flags: the status outputs, functions of the state alone (R35, R26). -/

namespace Sys2Proof.Machine

/-- `ready` (R35). -/
def State.ready (s : State) : Bool := s.state == .idle

/-- `busy` (R35). -/
def State.busy (s : State) : Bool := s.state != .idle && s.state != .fault

/-- `done` (R35). -/
def State.isDone (s : State) : Bool := s.state == .done

/-- `fault` (R35). -/
def State.isFault (s : State) : Bool := s.state == .fault

/-- `fault_code` (R35). -/
def State.faultCodeOut (s : State) : BitVec 2 := s.faultCode

/-- `rdata_valid` (R35). -/
def State.rdataValidOut (s : State) : Bool := s.rdataValid

/-- RDATA as R26 represents it: "no value" while RDATA_VALID = 0. -/
def State.rdataValue (s : State) : Option Byte := if s.rdataValid then some s.rdata else none

/-- `rdata` as the caller reads it: RDATA, or a free value while RDATA_VALID = 0 (R26, U4; log 15). -/
def State.rdataOut (s : State) : Byte := s.rdataValue.getD (Config.drawPort s.ticks)

end Sys2Proof.Machine
end

