-- ==== Sys2Proof/Machine/Ops.lean ====
section
/-! DEFINITION. Ops: the named operations over memory, the trace, the control lines, the data bus and
the device; fault entry and reset. Every meaning is written over these. -/

namespace Sys2Proof.Machine

/-! ### Cells (R36, R50) -/

/-- What a cell that nothing has written reads as. The spec makes it a launch parameter (R36); an
unlisted cell reads 0xFF, the erased value of R80's ERASE (DESIGN CHOICE, log 7). -/
def unlistedByte : Byte := 0xFF#8

/-- The byte of cell `a`. -/
def Memory.read : Memory → Nat → Byte
  | [], _ => unlistedByte
  | (k, b) :: m, a => if k = a then b else Memory.read m a

/-- A cell in front of a memory, left out when it holds what an unlisted cell reads as. -/
def Memory.cons (a : Nat) (v : Byte) (m : Memory) : Memory :=
  if v = unlistedByte then m else (a, v) :: m

/-- Cell `a` set to `v`, in canonical form. -/
def Memory.write : Memory → Nat → Byte → Memory
  | [], a, v => Memory.cons a v []
  | (k, b) :: m, a, v =>
    if a < k then Memory.cons a v ((k, b) :: m)
    else if a = k then Memory.cons a v m
    else (k, b) :: Memory.write m a v

/-- The canonical form from address `lo` on: addresses strictly rising, none above `limit`, no entry
equal to what an unlisted cell reads as. -/
def Memory.wfFrom (limit : Nat) : Nat → Memory → Bool
  | _, [] => true
  | lo, (k, b) :: m =>
    decide (lo ≤ k) && decide (k ≤ limit) && (b != unlistedByte) && Memory.wfFrom limit (k + 1) m

/-- The canonical form of a memory of cells 0 to `limit` (R50). -/
def Memory.wf (limit : Nat) (m : Memory) : Bool := Memory.wfFrom limit 0 m

/-! ### Inputs, trace and the tick's number -/

/-- The inputs of this tick (R120); all lines are 0 after the schedule has run out (log 2). -/
def State.input (s : State) : Input := s.inputs.headD Input.quiet

/-- The state that the actions of this tick start from: its inputs have been taken. -/
def State.takeInput (s : State) : State := { s with inputs := s.inputs.tail }

/-- `emit E` (R10, R40). -/
def State.emit (s : State) (e : Event) : State := { s with trace := s.trace ++ [e] }

/-- The tick is over: the free values of the next one are other values (R10; log 5). -/
def State.countTick (s : State) : State := { s with ticks := s.ticks + 1 }

/-! ### Fault entry, and the way out of it (R152, R153, R170) -/

/-- FAULT_CODE of ILLEGAL_REQUEST (R150). -/
def illegalRequest : BitVec 2 := 1#2

/-- FAULT_CODE of ADDR_RANGE (R150). -/
def addrRange : BitVec 2 := 2#2

/-- FAULT_CODE of BUS_CONTENTION (R150). -/
def busContention : BitVec 2 := 3#2

/-- `raise Fault(code)` (R152): on the state with nothing but the Accept event of this tick, since every
other write of the tick is discarded. There is no return: only reset leaves FAULT (R153, R160). -/
def raiseFault (code : BitVec 2) (s : State) : State :=
  { s.emit (.fault code) with faultCode := code, state := .fault }

/-! ### Control lines of the shift registers (R28, R33) -/

/-- SER takes a bit (R103). -/
def State.setSer (s : State) (b : Bool) : State := { s with ser := b }

/-- The rising edge of SRCLK: `SR <- {SR[14:0], SER}` (R28). -/
def State.srclkRise (s : State) : State := { s with srclk := true, sr := shiftIn16 s.sr s.ser }

/-- SRCLK falls; it is 0 at every tick boundary (R33). -/
def State.srclkFall (s : State) : State := { s with srclk := false }

/-- The rising edge of RCLK: `OUT <- SR`, all 16 bits at once (R29, R104). -/
def State.rclkRise (s : State) : State := { s with rclk := true, out := s.sr }

/-- RCLK falls; it is 0 at every tick boundary (R33). -/
def State.rclkFall (s : State) : State := { s with rclk := false }

/-! ### The data bus as the controller reads it (R34, R55, R112) -/

/-- The device alone drives D[7:0], and what it drives is defined: DDIR = IN, OE_n = 0 and no device
write pending (R34). -/
def State.busDefined (s : State) : Bool := s.ddir == .input && !s.oeN && s.pending.isNone

/-- The cell that the device's address pins select (R55). -/
def State.cell (s : State) : Byte := s.mem.read s.devAddr.toNat

/-- What the device drives on D[7:0] (R55, R112): nothing while OE_n = 1; the selected cell, or a free
value while a write is pending. -/
def State.deviceDrives (s : State) : Option Byte :=
  if s.oeN then none else some (if s.pending.isNone then s.cell else Config.drawBus s.ticks)

/-- D_IN (R34): the selected cell where the bus is defined, a free value in every other case. -/
def State.dIn (s : State) : Byte := if s.busDefined then s.cell else Config.drawBus s.ticks

/-- The device's data is there by sample `i`: `accessTicks` whole ticks have passed since LATCH. R123: a
model that cannot justify the access-time assumption makes early samples `draw()` (log 14). -/
def State.accessDone (s : State) (i : Nat) : Bool :=
  decide (s.cfg.accessTicks ≤ s.cfg.pReadSetupTicks + i)

/-- The byte that sample `i` reads its bit from (R131 over R34 and R123). -/
def State.sampleByte (s : State) (i : Nat) : Byte := if s.accessDone i then s.dIn else Config.drawBus s.ticks

/-! ### The device (R54 to R58) -/

/-- The device captures byte `v` at a WE_n rising edge (R56). While a write is pending the edge leaves the
device stuck, and a stuck device takes no further step (R57, U3; log 9). -/
def State.capture (s : State) (v : Byte) : State :=
  if s.deviceStuck then s
  else if s.pending.isSome then { s with deviceStuck := true }
  else { s with pending := some ⟨s.devAddr, v, devSettleNs⟩ }

/-- A WE_n rising edge with the data lines released: the byte is `draw()` (R170). -/
def State.captureReleased (s : State) : State := s.capture (Config.drawWrite s.ticks)

/-- `MemWrite(DEVADDR, 1, D)` at a WE_n rising edge (R56): the byte is DOUT when the controller alone
drives the lines, a free value otherwise. -/
def State.memWrite (s : State) : State :=
  if s.ddir == .output && s.oeN then s.capture s.dout else s.captureReleased

/-- What a cell holds after byte `v` has settled in it: `v` under DEVICE_RETAINS, else a free value (R58,
U8; log 13). -/
def State.retained (s : State) (v : Byte) : Byte :=
  if s.cfg.deviceRetains then v else Config.drawCell s.ticks

/-- The pending write commits: `MEM[a] <- v ; PENDING <- none` (R57). -/
def State.commit (s : State) (p : PendingWrite) : State :=
  { s with mem := s.mem.write p.addr.toNat (s.retained p.value), pending := none }

/-- The device settle countdown at the end of a tick (R57). `before` is PENDING at the start of the tick:
a write that this tick set is not counted down, and a stuck device takes no step (log 9, 10). -/
def State.settle (before : Option PendingWrite) (s : State) : State :=
  match before with
  | none => s
  | some p =>
    if s.deviceStuck then s
    else if p.remaining ≤ s.cfg.pTick then s.commit p
    else { s with pending := some { p with remaining := p.remaining - s.cfg.pTick } }

/-- DDIR = OUT and OUT[15] = 0: controller and device both drive D[7:0] (R40, R181). -/
def State.contending (s : State) : Bool := s.ddir == .output && !s.oeN

/-- Step 4 of a tick (R120). -/
def State.noteContention (s : State) : State := if s.contending then s.emit .contend else s

/-- The end of a tick without RESET: the device countdown, then the contention check (R120 steps 3, 4). -/
def endTick (before : Option PendingWrite) (s : State) : State :=
  (s.settle before).noteContention.countTick

/-! ### Timed states (R121) -/

/-- A tick in a timed state: TIMER goes down by 1, and the exit action is performed in the tick in which
it goes from 1 to 0 (R121). TIMER is a 32-bit register, so 0 goes to 2^32 - 1 (log 11). -/
def timedTick (exit : State → State) (s : State) : State :=
  if s.timer = 1#32 then exit { s with timer := s.timer - 1#32 }
  else { s with timer := s.timer - 1#32 }

/-! ### Reset (R170) -/

/-- WE_n rises when a reset arrives in WR_WE_LOW: a device write edge with the data lines released (R170). -/
def resetWriteEdge (s : State) : State :=
  if s.state = .wrWeLow then (s.emit .weRise).captureReleased else s

/-- The action of a tick with RESET = 1 (R170). It alone leaves FAULT (R153). It keeps the trace: R43's table
of reset values has "trace: empty", R170 writes no trace, and the model takes the empty trace for the start
of a run only (DESIGN CHOICE, log 24). It does not end a stuck device (DESIGN CHOICE, log 9). -/
def resetTick (s : State) : State :=
  { resetWriteEdge s with
    state := .idle, idx := 0#4, timer := 0#32, ddir := .input, weN := true, ser := false,
    srclk := false, rclk := false, faultCode := 0#2, rdataValid := false }

/-! ### Outcomes -/

/-- `f` on the next state of an outcome; a stop stays a stop. -/
def onNext (o : Host.Outcome State Fault Refusal) (f : State → State) :
    Host.Outcome State Fault Refusal :=
  match o with
  | .next s => .next (f s)
  | .fault r => .fault r
  | .refused r => .refused r

end Sys2Proof.Machine
end

