-- ==== Sys2Proof/Machine/ReadStates.lean ====
section
/-! DEFINITION. ReadStates: the states of a READ_BYTE that are its own (R130 to R132), and DONE (R133). -/

namespace Sys2Proof.Machine

/-- The DIR_IN tick (R130). -/
def dirInTick (s : State) : State :=
  { s.emit (.dir .input) with
    ddir := .input, acc := 0#8, frame := frames s.addr true, idx := 0#4, state := .shift }

/-- An RD_WAIT tick (R132). -/
def rdWaitTick (s : State) : State :=
  timedTick (fun t => { t with idx := 0#4, state := .rdSample }) s

/-- The bit that RD_SAMPLE step i reads, `D_IN[7 - i]` (R131). -/
def sampleBit (s : State) (i : Nat) : Bool := (s.sampleByte i).getLsbD (7 - i)

/-- `ACC <- {ACC[6:0], b}` and `emit Sample(i, b)` (R131). -/
def takeSample (s : State) (i : Nat) : State :=
  { s.emit (.sample i (sampleBit s i)) with acc := shiftIn8 s.acc (sampleBit s i) }

/-- The end of the last sample: RDATA takes the new ACC (R131, R26). -/
def finishRead (s : State) : State :=
  { s with rdata := s.acc, rdataValid := true, idx := 0#4, state := .done }

/-- An RD_SAMPLE tick (R131). No rule covers IDX above 7 there (log 12). -/
def rdSampleTick (s : State) : Host.Outcome State Fault Refusal :=
  if 7 < s.idx.toNat then .fault .noRule
  else if s.idx = 7#4 then .next (finishRead (takeSample s 7))
  else .next { takeSample s s.idx.toNat with idx := s.idx + 1#4 }

/-- What the Done event carries: RDATA for a READ_BYTE, else none (R133). -/
def doneResult (s : State) : Option Byte := if s.op = 2#2 then some s.rdata else none

/-- The DONE tick, for every request kind (R133). -/
def doneTick (s : State) : State := { s.emit (.done s.op (doneResult s)) with state := .idle }

end Sys2Proof.Machine
end

