-- ==== Sys2Proof/Machine/Serializer.lean ====
section
/-! DEFINITION. Serializer: the address message that all three requests share: the SHIFT and LATCH ticks
(40_address_serializer.md). -/

namespace Sys2Proof.Machine

/-- Bit k of the message is `F[15 - k]`: most-significant bit first, frame 1 first (R77, R103). -/
def frameBit (f : Half) (k : Nat) : Bool := f.getLsbD (15 - k)

/-- SER takes bit `b`, one SRCLK pulse shifts it into SR, and `Shift(b)` is emitted (R103). -/
def shiftBit (s : State) (b : Bool) : State := (s.setSer b).srclkRise.srclkFall.emit (.shift b)

/-- A SHIFT tick (R103). -/
def shiftTick (s : State) : State :=
  if s.idx = 15#4 then
    { shiftBit s (frameBit s.frame 15) with idx := 0#4, state := .latch }
  else { shiftBit s (frameBit s.frame s.idx.toNat) with idx := s.idx + 1#4 }

/-- The storage-clock pulse of a LATCH tick: `OUT <- SR`, `emit Latch(SR)` (R104). -/
def latchPulse (s : State) : State := s.rclkRise.rclkFall.emit (.latch s.sr)

/-- Where a READ_BYTE goes from LATCH: to RD_SAMPLE when P_READ_SETUP_TICKS = 0, else to RD_WAIT (R104). -/
def enterRead (s : State) : State :=
  if s.cfg.pReadSetupTicks = 0 then { s with idx := 0#4, state := .rdSample }
  else { s with timer := BitVec.ofNat 32 s.cfg.pReadSetupTicks, state := .rdWait }

/-- A LATCH tick (R104). No rule covers OP = 00 there (log 12). -/
def latchTick (s : State) : Host.Outcome State Fault Refusal :=
  if s.op = 1#2 then .next { latchPulse s with state := .done }
  else if s.op = 2#2 then .next (enterRead (latchPulse s))
  else if s.op = 3#2 then .next { latchPulse s with idx := 0#4, state := .wrDrive }
  else .fault .noRule

end Sys2Proof.Machine
end

