-- ==== Sys2Proof/Machine/WriteStates.lean ====
section
/-! DEFINITION. WriteStates: the states of a WRITE_BYTE that are its own (R135 to R138). -/

namespace Sys2Proof.Machine

/-- The DIR_OUT tick (R135). -/
def dirOutTick (s : State) : State :=
  { s.emit (.dir .output) with
    ddir := .output, frame := frames s.addr false, idx := 0#4, state := .shift }

/-- `DOUT[i] <- DATA[i]` and `emit Drive(i, DATA[i])` (R136). -/
def driveBit (s : State) (i : Nat) : State :=
  { s.emit (.drive i (s.data.getLsbD i)) with dout := setBit8 s.dout i (s.data.getLsbD i) }

/-- The end of the last drive: WE_n falls and WR_WE_LOW begins (R136). -/
def finishDrive (s : State) : State :=
  { s.emit .weFall with
    weN := false, timer := BitVec.ofNat 32 s.cfg.pWeTicks, idx := 0#4, state := .wrWeLow }

/-- A WR_DRIVE tick (R136). No rule covers IDX above 7 there (log 12). -/
def wrDriveTick (s : State) : Host.Outcome State Fault Refusal :=
  if 7 < s.idx.toNat then .fault .noRule
  else if s.idx = 7#4 then .next (finishDrive (driveBit s 7))
  else .next { driveBit s s.idx.toNat with idx := s.idx + 1#4 }

/-- The exit action of WR_WE_LOW: WE_n rises, the device captures the byte, and the settle delay begins
(R137). -/
def weLowExit (s : State) : State :=
  { (s.emit .weRise).memWrite with
    weN := true, timer := BitVec.ofNat 32 s.cfg.pSettleTicks, state := .wrSettle }

/-- A WR_WE_LOW tick (R137). -/
def wrWeLowTick (s : State) : State := timedTick weLowExit s

/-- A WR_SETTLE tick (R138). -/
def wrSettleTick (s : State) : State := timedTick (fun t => { t with state := .done }) s

end Sys2Proof.Machine
end

