-- ==== Sys2Proof/Machine/Sequencer.lean ====
section
/-! DEFINITION. Sequencer: the action of the current STATE when no request is taken (R120 step 2). -/

namespace Sys2Proof.Machine

/-- The state's own action (R120). An IDLE tick that takes no request, and a FAULT tick, change nothing
but the device countdown, which `endTick` adds (R124, R153). -/
def ownAction (s : State) : Host.Outcome State Fault Refusal :=
  match s.state with
  | .idle => .next s
  | .dirIn => .next (dirInTick s)
  | .dirOut => .next (dirOutTick s)
  | .shift => .next (shiftTick s)
  | .latch => latchTick s
  | .rdWait => .next (rdWaitTick s)
  | .rdSample => rdSampleTick s
  | .wrDrive => wrDriveTick s
  | .wrWeLow => .next (wrWeLowTick s)
  | .wrSettle => .next (wrSettleTick s)
  | .done => .next (doneTick s)
  | .fault => .next s

end Sys2Proof.Machine
end

