-- ==== Sys2Proof/Machine/Requests.lean ====
section
/-! DEFINITION. Requests: what a tick does in which a request is presented: in IDLE it is accepted (R125),
in every other state the tick performs the state's own action (R126). The states that follow an
acceptance are the rest of the request (R100, R127, R134; Machine/Sequencer.lean). -/

namespace Sys2Proof.Machine

/-- A request is taken only in IDLE; elsewhere nothing of it is captured (R126). -/
def presented (accept : State → State) (s : State) : Host.Outcome State Fault Refusal :=
  if s.state = .idle then .next (accept s) else ownAction s

/-- `OP <- w[31:30] ; ADDR <- w[23:8] ; OE <- w[24] ; DATA <- w[7:0]` (R125). -/
def captureFields (op : BitVec 2) (a : Half) (e : Bool) (v : Byte) (s : State) : State :=
  { s with op := op, addr := a, oe := e, data := v }

/-- The new OE_n would be 0 while the controller drives the data lines (R157). -/
def wouldContend (f : Half) (s : State) : Bool := !f.getLsbD 15 && s.ddir == .output

/-- Acceptance of a SET_ADDRESS (R100, R125, R157). -/
def acceptSetaddr (a : Half) (e : Bool) (s : State) : State :=
  let s1 := s.emit (.accept 1#2 a e 0#8)
  if wouldContend (frames a e) s then raiseFault busContention s1
  else { captureFields 1#2 a e 0#8 s1 with frame := frames a e, idx := 0#4, state := .shift }

/-- Acceptance of a READ_BYTE (R125, R127, R156). -/
def acceptRdb (a : Half) (s : State) : State :=
  let s1 := s.emit (.accept 2#2 a false 0#8)
  if s.cfg.maxAddr < a then raiseFault addrRange s1
  else { captureFields 2#2 a false 0#8 s1 with rdataValid := false, state := .dirIn }

/-- Acceptance of a WRITE_BYTE (R125, R134, R156). -/
def acceptWrb (a : Half) (v : Byte) (s : State) : State :=
  let s1 := s.emit (.accept 3#2 a false v)
  if s.cfg.maxAddr < a then raiseFault addrRange s1
  else { captureFields 3#2 a false v s1 with state := .dirOut }

/-- Acceptance of an illegal word: the Accept event holds the raw fields, then ILLEGAL_REQUEST (R72, R125,
R155). -/
def acceptIllegal (w : Word) (s : State) : State :=
  raiseFault illegalRequest
    (s.emit (.accept (opField w) (addrField w) (enableField w) (valueField w)))

/-- SET_ADDRESS presented in this tick (R100). -/
def execSetaddr (a : Half) (oe : Bool) (s : State) : Host.Outcome State Fault Refusal :=
  presented (acceptSetaddr a oe) s

/-- READ_BYTE presented in this tick (R127). -/
def execRdb (a : Half) (s : State) : Host.Outcome State Fault Refusal := presented (acceptRdb a) s

/-- WRITE_BYTE presented in this tick (R134). -/
def execWrb (a : Half) (v : Byte) (s : State) : Host.Outcome State Fault Refusal :=
  presented (acceptWrb a v) s

/-- An illegal word presented in this tick (R72, R126). -/
def presentIllegal (w : Word) (s : State) : Host.Outcome State Fault Refusal :=
  presented (acceptIllegal w) s

end Sys2Proof.Machine
end

