-- ==== Sys2Proof/Machine/Tick.lean ====
section
/-! DEFINITION. Tick: one tick of the block (R120), over the inputs of that tick. -/

namespace Sys2Proof.Machine

/-- Step 2 of a tick (R120): the request presented, if there is one, or the state's own action. -/
def portAction (inp : Input) (s : State) : Host.Outcome State Fault Refusal :=
  if inp.reqValid then
    match decode inp.reqWord with
    | .ok i => exec i s
    | .error _ => presentIllegal inp.reqWord s
  else ownAction s

/-- A tick with RESET = 1: the reset, then the device countdown, which is physical time (R120, R170). -/
def resetWholeTick (s : State) : State := ((resetTick s.takeInput).settle s.pending).countTick

/-- A tick without RESET while the device is stuck: "the same state when the tick is stuck: ... the device
stuck by 20_memory.md rule R57" (R120); only the model's own inputs and tick number go on (log 9). -/
def stuckTick (s : State) : State := s.takeInput.countTick

/-- One tick (R120): steps 1 to 4, or the same state when the device is stuck. -/
def tick (s : State) : Host.Outcome State Fault Refusal :=
  if s.input.reset then .next (resetWholeTick s)
  else if s.deviceStuck then .next (stuckTick s)
  else onNext (portAction s.input s.takeInput) (endTick s.pending)

/-- This tick's port shows `req_valid` = 1 and the request word of `nbits` bits `w`, with RESET = 0. -/
def State.present (s : State) (nbits w : Nat) : State :=
  { s with inputs := ⟨false, true, wordOfBits nbits w⟩ :: s.inputs.tail }

end Sys2Proof.Machine
end

