-- ==== Sys2Proof/Machine/Step.lean ====
section
/-! DEFINITION. Step: one step is one tick of CLK, under a valid configuration (R8, R120). -/

namespace Sys2Proof.Machine

/-- One step (R120). Under a configuration that breaks a bound of R8 "no run of ASMS exists" (log 4). -/
def step (s : State) : Host.Outcome State Fault Refusal :=
  if s.cfg.valid then tick s else .refused .invalidConfig

/-- `s` with the request word of `nbits` bits `w` presented in its next tick (R71; log 2, log 17). -/
def State.withFetchWord (s : State) (nbits w : Nat) : State := s.present nbits w

end Sys2Proof.Machine
end

