-- ==== Sys2Proof/Machine/Assembler.lean ====
section
/-! DEFINITION. Assembler: the request assembly syntax of R80 and its pseudo-instructions, over lists of
characters. What R80 leaves open (blanks, letter case, empty lines) is settled in log 16. -/

namespace Sys2Proof.Machine

/-- Why a line does not assemble. -/
inductive AsmError
  /-- The line has none of R80's forms. -/
  | syntaxError
  /-- A number is out of its range: "a larger number is an assembly error" (R80). -/
  | outOfRange
  deriving DecidableEq, Repr

/-- The requests of `0, 1, ..., n - 1`, each made from its address. -/
def requestsUpTo (f : Half → Instr) : Nat → List Instr
  | 0 => []
  | n + 1 => requestsUpTo f n ++ [f (BitVec.ofNat 16 n)]

/-- WRITE_BYTE requests of the bytes to rising addresses from `a` on (R80, WRBLK). -/
def writeBlock : Nat → List Nat → List Instr
  | _, [] => []
  | a, b :: bs => .wrb (BitVec.ofNat 16 a) (BitVec.ofNat 8 b) :: writeBlock (a + 1) bs

/-- The request sequence of a well-formed assembly term; a pseudo-instruction "has no meaning beyond its
expansion" (R80). -/
def expand : Source → List Instr
  | .setaddr a e => [.setaddr (BitVec.ofNat 16 a) (decide (e = 1))]
  | .rdb a => [.rdb (BitVec.ofNat 16 a)]
  | .wrb a v => [.wrb (BitVec.ofNat 16 a) (BitVec.ofNat 8 v)]
  | .dump m => requestsUpTo (fun a => .rdb a) (m + 1)
  | .erase m => requestsUpTo (fun a => .wrb a 0xFF#8) (m + 1)
  | .wrblk bs => writeBlock 0 bs

/-! ### Text -/

/-- A blank: space or tab. -/
def isBlankChar (c : Char) : Bool := c == ' ' || c == '\t'

/-- The line up to its comment: "`;` starts a comment" (R80). -/
def stripComment (cs : List Char) : List Char := cs.takeWhile (· != ';')

/-- No blanks at either end. -/
def trimBlanks (cs : List Char) : List Char :=
  ((cs.dropWhile isBlankChar).reverse.dropWhile isBlankChar).reverse

/-- The pieces between the commas. -/
def splitCommas : List Char → List (List Char)
  | [] => [[]]
  | c :: cs =>
    match splitCommas cs with
    | [] => [[c]]
    | p :: ps => if c = ',' then [] :: p :: ps else (c :: p) :: ps

/-- The value of a digit in base `base`. -/
def digitValue (base : Nat) (c : Char) : Option Nat :=
  let n := c.toNat
  let v :=
    if 48 ≤ n ∧ n ≤ 57 then n - 48
    else if 97 ≤ n ∧ n ≤ 102 then n - 87
    else if 65 ≤ n ∧ n ≤ 70 then n - 55
    else base
  if v < base then some v else none

/-- The number that the digits continue from `acc`. -/
def readDigits (base : Nat) : Nat → List Char → Option Nat
  | acc, [] => some acc
  | acc, c :: cs =>
    match digitValue base c with
    | some v => readDigits base (acc * base + v) cs
    | none => none

/-- "A decimal or 0x-prefixed hexadecimal number" (R80). -/
def readNumber : List Char → Option Nat
  | [] => none
  | '0' :: 'x' :: [] => none
  | '0' :: 'x' :: cs => readDigits 16 0 cs
  | cs => readDigits 10 0 cs

/-- `<oe>`: a number, or RD for 1 and WR for 0 (R80). -/
def readOe (cs : List Char) : Option Nat :=
  if cs = ['R', 'D'] then some 1
  else if cs = ['W', 'R'] then some 0
  else readNumber cs

/-- All of a list of numbers, or none of it. -/
def readAll : List (List Char) → Option (List Nat)
  | [] => some []
  | p :: ps =>
    match readNumber (trimBlanks p), readAll ps with
    | some n, some ns => some (n :: ns)
    | _, _ => none

/-- `[b0, ..., bn]` (R80). -/
def readBytes (cs : List Char) : Option (List Nat) :=
  match cs with
  | '[' :: rest =>
    match rest.reverse with
    | ']' :: inner =>
      if trimBlanks inner.reverse = [] then some [] else readAll (splitCommas inner.reverse)
    | _ => none
  | _ => none

/-- A line's one operand, a number, under `f`. -/
def readOne (f : Nat → Source) (rest : List Char) : Option Source := (readNumber rest).map f

/-- A line's two operands, separated by a comma, the second one read by `second`. -/
def readTwo (f : Nat → Nat → Source) (second : List Char → Option Nat) (rest : List Char) :
    Option Source :=
  match splitCommas rest with
  | [p, q] =>
    match readNumber (trimBlanks p), second (trimBlanks q) with
    | some m, some n => some (f m n)
    | _, _ => none
  | _ => none

/-- The assembly term that mnemonic `name` and operand text `rest` stand for (R80). -/
def parseOperation (name rest : List Char) : Option Source :=
  if name = ['S', 'E', 'T', 'A', 'D', 'D', 'R'] then readTwo .setaddr readOe rest
  else if name = ['R', 'D', 'B'] then readOne .rdb rest
  else if name = ['W', 'R', 'B'] then readTwo .wrb readNumber rest
  else if name = ['D', 'U', 'M', 'P'] then readOne .dump rest
  else if name = ['E', 'R', 'A', 'S', 'E'] then readOne .erase rest
  else if name = ['W', 'R', 'B', 'L', 'K'] then (readBytes rest).map .wrblk
  else none

/-- The requests of a checked assembly term (R80). -/
def assembleSource (t : Source) : Except AsmError (List Instr) :=
  if t.wellFormed then .ok (expand t) else .error .outOfRange

/-- The requests of one line of request assembly (R80); a line of blanks and comment stands for none. -/
def assembleLine (line : List Char) : Except AsmError (List Instr) :=
  let text := trimBlanks (stripComment line)
  if text = [] then .ok []
  else
    match parseOperation (text.takeWhile (fun c => !isBlankChar c))
        (trimBlanks (text.dropWhile (fun c => !isBlankChar c))) with
    | none => .error .syntaxError
    | some t => assembleSource t

end Sys2Proof.Machine
end

