-- ==== Sys2Proof/Machine/Power.lean ====
section
/-! DEFINITION. Power: the launch state of a run with every unspecified register free (R43, R173, R174), and
what a power loss leaves for the next run (R176). Neither is a step: "Power loss ends a model run". -/

namespace Sys2Proof.Machine

/-- The state at the start of a run (R175), after a boot that met R173: the reset values of R43, and a free
value in every register that R43 leaves unspecified. `n` names the free values of this power-up. The device is
not stuck, of which R43 and R175 say nothing (DESIGN CHOICE, log 25). -/
def powerUp (n : Nat) (c : Config) (m : Memory) (ins : List Input) : State :=
  { State.reset with
    op := (Config.drawPowerUp n 0).setWidth 2
    addr := Config.drawPowerUp n 1
    oe := (Config.drawPowerUp n 2).getLsbD 0
    data := (Config.drawPowerUp n 3).setWidth 8
    frame := Config.drawPowerUp n 4
    rdata := (Config.drawPowerUp n 5).setWidth 8
    sr := Config.drawPowerUp n 6
    out := Config.drawPowerUp n 7
    dout := (Config.drawPowerUp n 8).setWidth 8
    acc := (Config.drawPowerUp n 9).setWidth 8
    mem := m
    inputs := ins
    ticks := n
    cfg := c }

/-- STATE from a drawn number (U20); its codes 12 to 15 have no constructor (U11, log 12). -/
def drawnState (v : Half) : SeqState :=
  [.idle, .dirIn, .dirOut, .shift, .latch, .rdWait, .rdSample, .wrDrive, .wrWeLow, .wrSettle, .done,
    SeqState.fault].getD (v.toNat % 12) .idle

/-- The state between power-up and the first reset tick: "every ASMS register is unspecified, including
WE_n" (R173, U20). Its next tick has RESET = 1, as R173 requires, and `ins` follow (log 23). The device is not
stuck (DESIGN CHOICE, log 25). -/
def powerOn (n : Nat) (c : Config) (m : Memory) (ins : List Input) : State :=
  { powerUp n c m (⟨true, false, 0#32⟩ :: ins) with
    state := drawnState (Config.drawPowerUp n 10)
    idx := (Config.drawPowerUp n 11).setWidth 4
    timer := Config.drawPowerUp n 12 ++ Config.drawPowerUp n 13
    rdataValid := (Config.drawPowerUp n 14).getLsbD 0
    faultCode := (Config.drawPowerUp n 15).setWidth 2
    ddir := if (Config.drawPowerUp n 16).getLsbD 0 then .output else .input
    ser := (Config.drawPowerUp n 17).getLsbD 0
    srclk := (Config.drawPowerUp n 18).getLsbD 0
    rclk := (Config.drawPowerUp n 19).getLsbD 0
    weN := (Config.drawPowerUp n 20).getLsbD 0 }

/-- Cell `a` holds `draw()`: its write was cut off by the power loss (R176, U9). -/
def State.loseCell (s : State) (a : BitVec 15) : State :=
  { s with mem := s.mem.write a.toNat (Config.drawLoss s.ticks), ticks := s.ticks + 1 }

/-- A write that is still settling in the device is cut off (R176). -/
def State.losePending (s : State) : State :=
  match s.pending with
  | none => s
  | some p => s.loseCell p.addr

/-- A WRITE_BYTE whose WE_n fell and which has not reached its DONE tick can be cut off now (R176): one in
WR_WE_LOW or WR_SETTLE, or the one that left the device stuck. Its cell is at DEVADDR, for OUT keeps its
value while the device is stuck (R120, R170; log 18). -/
def State.writeCut (s : State) : Bool :=
  s.state == .wrWeLow || s.state == .wrSettle || s.deviceStuck

/-- A WRITE_BYTE after its WE_n fell and before its DONE tick is cut off (R176). -/
def State.loseInFlight (s : State) : State :=
  if s.writeCut then s.loseCell s.devAddr else s

/-- The launch state after power is lost in `s` and comes back, under the same configuration and with
`ins` as the next run's inputs (R176): "no other cell changes" (D22). That a power loss ends the device's stuck
state is the model's choice, for R176 speaks of cells only (DESIGN CHOICE, log 25). -/
def powerCycle (ins : List Input) (s : State) : State :=
  powerUp s.losePending.loseInFlight.ticks s.cfg s.losePending.loseInFlight.mem ins

end Sys2Proof.Machine
end

