-- ==== Sys2Proof/Machine/Transaction.lean ====
section
/-! DEFINITION. Transaction: the one-step form of a whole request (R139), with the events (R106, R131, R136,
R141, R181) and the ticks (R190) of its tick-level run. It is no second meaning: that the ticks lead to it
is stated as an obligation. -/

namespace Sys2Proof.Machine

/-- The ticks of a request from its first busy tick through DONE (R139, R190). -/
def busyTicks (c : Config) : Instr → Nat
  | .setaddr _ _ => 18
  | .rdb _ => 27 + c.pReadSetupTicks
  | .wrb _ _ => 27 + c.pWeTicks + c.pSettleTicks

/-- The sixteen Shift events of frames `f` (R106), each followed by `after`. -/
def shiftEvents (f : Half) (after : List Event) : List Event :=
  (List.range 16).flatMap (fun k => .shift (frameBit f k) :: after)

/-- The eight Sample events of byte `b` (R131). -/
def sampleEvents (b : Byte) : List Event :=
  (List.range 8).map (fun i => .sample i (b.getLsbD (7 - i)))

/-- The eight Drive events of byte `v` (R136). -/
def driveEvents (v : Byte) : List Event := (List.range 8).map (fun i => .drive i (v.getLsbD i))

/-- The events of a whole SET_ADDRESS (R100, R106). -/
def setaddrEvents (a : Half) (e : Bool) : List Event :=
  .accept 1#2 a e 0#8 :: shiftEvents (frames a e) [] ++ [.latch (frames a e), .done 1#2 none]

/-- The events of a whole READ_BYTE that reads `b` (R127). -/
def rdbEvents (a : Half) (b : Byte) : List Event :=
  [.accept 2#2 a false 0#8, .dir .input] ++ shiftEvents (frames a true) [] ++
    [.latch (frames a true)] ++ sampleEvents b ++ [.done 2#2 (some b)]

/-- The events of a whole WRITE_BYTE (R134); with `overlap` the device still drives at its start, and 17
Contend events are among them (R181). -/
def wrbEvents (overlap : Bool) (a : Half) (v : Byte) : List Event :=
  let c := if overlap then [Event.contend] else []
  [.accept 3#2 a false v, .dir .output] ++ c ++ shiftEvents (frames a false) c ++
    [.latch (frames a false)] ++ driveEvents v ++ [.weFall, .weRise, .done 3#2 none]

/-- `n` ticks have passed: their inputs are taken and counted. -/
def State.afterTicks (n : Nat) (s : State) : State :=
  { s with inputs := s.inputs.drop n, ticks := s.ticks + n }

/-- The address message of frames `f` has been sent and latched (R105). -/
def State.sentFrames (f : Half) (s : State) : State :=
  { s with frame := f, sr := f, out := f, ser := f.getLsbD 0, srclk := false, rclk := false,
           idx := 0#4 }

/-- SET_ADDRESS as one step (R139). -/
def setaddrWhole (a : Half) (e : Bool) (s : State) : State :=
  { ((captureFields 1#2 a e 0#8 s).sentFrames (frames a e)).afterTicks
      (busyTicks s.cfg (.setaddr a e) + 1) with
    trace := s.trace ++ setaddrEvents a e }

/-- READ_BYTE as one step (R139). -/
def rdbWhole (a : Half) (s : State) : State :=
  let b := s.mem.read a.toNat
  { ((captureFields 2#2 a false 0#8 s).sentFrames (frames a true)).afterTicks
      (busyTicks s.cfg (.rdb a) + 1) with
    ddir := .input, acc := b, rdata := b, rdataValid := true,
    timer := if s.cfg.pReadSetupTicks = 0 then s.timer else 0#32,
    trace := s.trace ++ rdbEvents a b }

/-- WRITE_BYTE as one step, under DEVICE_RETAINS (R139). -/
def wrbWhole (a : Half) (v : Byte) (s : State) : State :=
  { ((captureFields 3#2 a false v s).sentFrames (frames a false)).afterTicks
      (busyTicks s.cfg (.wrb a v) + 1) with
    ddir := .output, dout := v, weN := true, timer := 0#32,
    mem := s.mem.write a.toNat v,
    trace := s.trace ++ wrbEvents (!s.oeN) a v }

end Sys2Proof.Machine
end

