-- ==== Sys2Proof/Safety.lean ====
section
/-! DEFINITION. Safety: what a run that starts, ends or goes wrong looks like (R153, R175, R177), what the
caller must do (R126), and the invariant of the sequencer and its device. -/

namespace Sys2Proof.Machine

/-! ### Runs -/

/-- The launch premise of R175: IDLE, no pending write, no fault, an empty trace, and a device that
takes steps (the last is the model's, log 25). -/
abbrev State.launch (s : State) : Prop :=
  s.state = .idle ∧ s.pending = none ∧ s.faultCode = 0#2 ∧ s.trace = [] ∧ s.deviceStuck = false

/-- "A model treats FAULT as a fault outcome", and a stuck device too (R153, R177). -/
abbrev State.faultOutcome (s : State) : Prop := s.state = .fault ∨ s.deviceStuck = true

/-- The caller has no request left to present (R177). -/
abbrev State.noRequestLeft (s : State) : Prop := ∀ inp ∈ s.inputs, inp.reqValid = false

/-- A run has ended cleanly (R177). -/
abbrev State.cleanEnd (s : State) : Prop :=
  s.state = .idle ∧ s.noRequestLeft ∧ s.pending = none ∧ s.faultCode = 0#2 ∧ s.deviceStuck = false

/-- The caller holds a request that this tick does not take (R126): the next tick's port shows the same
`req_valid` and `req_word`. -/
abbrev State.callerHolds (s : State) : Prop :=
  s.input.reqValid = true → s.ready = false →
    s.takeInput.input.reqValid = true ∧ s.takeInput.input.reqWord = s.input.reqWord

/-- No RESET in the next `n` ticks. -/
abbrev State.noReset (n : Nat) (s : State) : Prop := ∀ inp ∈ s.inputs.take n, inp.reset = false

/-- No controller and device driving together was noted so far: the premise that a claim of "never both"
must take (R181). -/
abbrev State.neverBoth (s : State) : Prop := Event.contend ∉ s.trace

/-- A WRITE_BYTE is in flight, so that a reset now comes in mid-write (R58, R172). -/
abbrev State.midWrite (s : State) : Prop := s.state ≠ .idle ∧ s.state ≠ .fault ∧ s.op = 3#2

/-- `n` ticks from `s`. -/
abbrev run (n : Nat) (s : State) : Host.Outcome State Fault Refusal := Host.Core.run Sys2Proof.core n s

/-- The checks that an acceptance makes pass for `i` (R125). -/
def State.admits (s : State) : Instr → Prop
  | .setaddr a e => wouldContend (frames a e) s = false
  | .rdb a => a ≤ s.cfg.maxAddr
  | .wrb a _ => a ≤ s.cfg.maxAddr

/-- `s` is idle over a device that takes steps, this tick presents `i`, the acceptance checks pass, and no
RESET comes before the request is done. A write may still be pending. -/
structure State.ReadyOver (s : State) (i : Instr) : Prop where
  configValid : s.cfg.valid = true
  idle : s.state = .idle
  deviceSteps : s.deviceStuck = false
  notContending : s.contending = false
  requestValid : s.input.reqValid = true
  request : decode s.input.reqWord = .ok i
  checksPass : s.admits i
  notReset : s.noReset (busyTicks s.cfg i + 1)

/-- The same over a device with no write pending. -/
structure State.ReadyFor (s : State) (i : Instr) : Prop extends State.ReadyOver s i where
  nothingPending : s.pending = none

/-! ### The invariant

Each part says what one group of rules promises between ticks; `State.Inv` is all of them. -/

/-- A request is in flight. -/
abbrev State.inFlight (s : State) : Prop := s.state ≠ .idle ∧ s.state ≠ .fault

/-- The output-enable value that the request in flight uses (R102). -/
def State.oeUsed (s : State) : Bool := if s.op = 1#2 then s.oe else s.op == 2#2

/-- SRCLK and RCLK are 0 at every tick boundary, and WE_n = 0 exactly when STATE = WR_WE_LOW (R33). -/
abbrev State.linesOk (s : State) : Prop :=
  s.srclk = false ∧ s.rclk = false ∧ (s.weN = false ↔ s.state = .wrWeLow)

/-- IDX is 0 to 15 in SHIFT, 0 to 7 in RD_SAMPLE and WR_DRIVE, and 0 in every other state (R22). -/
def State.idxOk (s : State) : Bool :=
  match s.state with
  | .shift => true
  | .rdSample => decide (s.idx.toNat ≤ 7)
  | .wrDrive => decide (s.idx.toNat ≤ 7)
  | .idle => s.idx == 0#4
  | .dirIn => s.idx == 0#4
  | .dirOut => s.idx == 0#4
  | .latch => s.idx == 0#4
  | .rdWait => s.idx == 0#4
  | .wrWeLow => s.idx == 0#4
  | .wrSettle => s.idx == 0#4
  | .done => s.idx == 0#4
  | .fault => s.idx == 0#4

/-- The states of R21's table marked READ_BYTE or WRITE_BYTE belong to that request, and no request in
flight has OP = 00 (R72). -/
def State.opOk (s : State) : Bool :=
  match s.state with
  | .idle => true
  | .fault => true
  | .dirIn => s.op == 2#2
  | .rdWait => s.op == 2#2
  | .rdSample => s.op == 2#2
  | .dirOut => s.op == 3#2
  | .wrDrive => s.op == 3#2
  | .wrWeLow => s.op == 3#2
  | .wrSettle => s.op == 3#2
  | .shift => s.op != 0#2
  | .latch => s.op != 0#2
  | .done => s.op != 0#2

/-- A READ_BYTE or WRITE_BYTE in flight names a device address (R125, R156). -/
abbrev State.rangeOk (s : State) : Prop := s.inFlight → s.op ≠ 1#2 → s.addr ≤ s.cfg.maxAddr

/-- While an address message is sent, F holds its frames (R101, R102). -/
abbrev State.frameOk (s : State) : Prop :=
  s.state = .shift ∨ s.state = .latch → s.frame = frames s.addr s.oeUsed

/-- SR holds the bits shifted so far, the last one at bit 0; all sixteen in LATCH (R28, R105). -/
abbrev State.chainOk (s : State) : Prop :=
  (s.state = .shift → ∀ j, j < s.idx.toNat → s.sr.getLsbD (s.idx.toNat - 1 - j) = frameBit s.frame j) ∧
  (s.state = .latch → s.sr = s.frame)

/-- From LATCH to DONE, OUT holds the frames of the request in flight (R105, R107, R142). -/
abbrev State.latchedOk (s : State) : Prop :=
  s.state = .rdWait ∨ s.state = .rdSample ∨ s.state = .wrDrive ∨ s.state = .wrWeLow ∨
    s.state = .wrSettle ∨ s.state = .done → s.out = frames s.addr s.oeUsed

/-- The data bus points the way the request in flight needs it (R130, R135, R142, R143, R157). -/
abbrev State.dirOk (s : State) : Prop :=
  s.inFlight →
    (s.op = 2#2 → s.state ≠ .dirIn → s.ddir = .input) ∧
    (s.op = 3#2 → s.state ≠ .dirOut → s.ddir = .output) ∧
    (s.op = 1#2 → wouldContend (frames s.addr s.oe) s = false)

/-- Controller and device drive together only while a WRITE_BYTE sends its address message (R181). -/
abbrev State.overlapOk (s : State) : Prop :=
  s.contending = true → (s.state = .shift ∨ s.state = .latch) ∧ s.op = 3#2

/-- A timed state has 1 to N ticks left (R121, R122). -/
abbrev State.timerOk (s : State) : Prop :=
  (s.state = .rdWait → 1 ≤ s.timer.toNat ∧ s.timer.toNat ≤ s.cfg.pReadSetupTicks) ∧
  (s.state = .wrWeLow → 1 ≤ s.timer.toNat ∧ s.timer.toNat ≤ s.cfg.pWeTicks) ∧
  (s.state = .wrSettle → 1 ≤ s.timer.toNat ∧ s.timer.toNat ≤ s.cfg.pSettleTicks)

/-- FAULT_CODE is nonzero exactly in FAULT (R150, R152, R153). -/
abbrev State.faultOk (s : State) : Prop := s.faultCode ≠ 0#2 ↔ s.state = .fault

/-- DOUT holds the bits driven so far, and all of DATA from WE_n's fall to DONE (R136, R142). -/
abbrev State.doutOk (s : State) : Prop :=
  (s.state = .wrDrive → ∀ j, j < s.idx.toNat → s.dout.getLsbD j = s.data.getLsbD j) ∧
  (s.state = .wrWeLow ∨ s.state = .wrSettle ∨ (s.state = .done ∧ s.op = 3#2) → s.dout = s.data)

/-- RDATA_VALID is 0 from the acceptance of a READ_BYTE to its last sample, and 1 in its DONE tick (R26,
R127). -/
abbrev State.validOk (s : State) : Prop :=
  s.inFlight → s.op = 2#2 → (s.rdataValid = true ↔ s.state = .done)

/-- While WR_SETTLE lasts and the device takes steps, the pending write is this request's and settles in
time; none is left at DONE (R140). -/
abbrev State.settleOk (s : State) : Prop :=
  s.deviceStuck = false →
    (s.state = .wrSettle → ∀ p ∈ s.pending,
      p.addr = s.devAddr ∧ p.value = s.data ∧ p.remaining ≤ s.timer.toNat * s.cfg.pTick) ∧
    (s.state = .done → s.op = 3#2 → s.pending = none)

/-- A device is stuck only over a write that is still pending (R57). -/
abbrev State.stuckOk (s : State) : Prop := s.deviceStuck = true → s.pending ≠ none

/-- MEM has its canonical form and no cell above MAX_ADDR, and a pending write is to a cell that exists
(R36, R37, R50). -/
abbrev State.memOk (s : State) : Prop :=
  Memory.wf s.cfg.maxAddr.toNat s.mem = true ∧
  ∀ p ∈ s.pending, p.addr.toNat ≤ s.cfg.maxAddr.toNat ∧ 0 < p.remaining ∧ p.remaining ≤ devSettleNs

/-- The invariant of the sequencer and its device between ticks. -/
def State.Inv (s : State) : Prop :=
  s.linesOk ∧ s.idxOk = true ∧ s.opOk = true ∧ s.rangeOk ∧ s.frameOk ∧ s.chainOk ∧ s.latchedOk ∧
  s.dirOk ∧ s.overlapOk ∧ s.timerOk ∧ s.faultOk ∧ s.doutOk ∧ s.validOk ∧ s.settleOk ∧ s.stuckOk ∧
  s.memOk

end Sys2Proof.Machine
end

