-- ==== Sys2Proof/Certificates/Slice0/Obligations.lean ====
section
/-! DEFINITION. Obligations: the statements for the provers, from the numbered rules of spec/. -/

open Sys2Proof Sys2Proof.Machine

/-! ### Encoding (30_encoding.md) -/

/-- R71, R74: decoding the word of a request gives the request back, with every operand at every value its
field admits. -/
def Obligations.DecodeOfEncodeIsTheRequest : Prop :=
  ∀ i : Instr, i.wellFormed = true → decode (encode i) = .ok i

/-- R71, R74: a word that decodes is the word of the request it decodes to: no bit of it is ignored. -/
def Obligations.EncodeOfDecodeIsTheWord : Prop :=
  ∀ (w : Word) (i : Instr), decode w = .ok i → encode i = w

/-- R72, whole: a word decodes exactly when `legal(w)` holds, exactly when `(w & mask) == match` for a row of
the table, and then for one row only; an illegal word, when accepted, raises ILLEGAL_REQUEST. -/
def Obligations.DecodesExactlyTheLegalWords : Prop :=
  ∀ w : Word,
    let legal : Prop :=
      w.extractLsb' 30 2 ≠ 0#2 ∧ w.extractLsb' 25 5 = 0#5 ∧
      (w.extractLsb' 30 2 = 1#2 ∨ w.getLsbD 24 = false) ∧
      (w.extractLsb' 30 2 = 3#2 ∨ w.extractLsb' 0 8 = 0#8)
    ((∃ i, decode w = .ok i) ↔ legal) ∧
    ((∃ a e, decode w = .ok (.setaddr a e)) ↔ w &&& 0xFE0000FF#32 = 0x40000000#32) ∧
    ((∃ a, decode w = .ok (.rdb a)) ↔ w &&& 0xFF0000FF#32 = 0x80000000#32) ∧
    ((∃ a v, decode w = .ok (.wrb a v)) ↔ w &&& 0xFF000000#32 = 0xC0000000#32) ∧
    (legal ↔ ∃ r ∈ opcodeRows, r.matches w = true) ∧
    (∀ r ∈ opcodeRows, ∀ r' ∈ opcodeRows, r.matches w = true → r'.matches w = true → r = r') ∧
    (¬ legal → ∀ s : State, s.cfg.valid = true → s.deviceStuck = false → s.state = .idle →
      s.input = ⟨false, true, w⟩ → ∃ t, step s = .next t ∧ t.state = .fault ∧ t.faultCode = 1#2)

/-- 95_test_vectors.md V-E1, V-E3, V-E5, V-E7, V-E9, V-E12: words written out there decode, or do not, as the
table says. -/
def Obligations.SampleWordsDecodeAsListed : Prop :=
  decode 0x41123400#32 = .ok (.setaddr 0x1234#16 true) ∧
  decode 0x41FFFF00#32 = .ok (.setaddr 0xFFFF#16 true) ∧
  decode 0x807FFF00#32 = .ok (.rdb 0x7FFF#16) ∧
  decode 0xC07FFFFF#32 = .ok (.wrb 0x7FFF#16 0xFF#8) ∧
  decode 0x00000000#32 = .error .reservedOp ∧
  decode 0x42000000#32 = .error .reservedBits

/-! ### Frames and the device's address (R29, R76, R101, R108) -/

/-- R101, whole: frame 1 and frame 2 by the source's formulas, and the equivalent form. -/
def Obligations.FramesFollowTheFormula : Prop :=
  ∀ (a : Half) (e : Bool),
    (frames a e).extractLsb' 8 8 = (a >>> 8).setWidth 8 ||| (if e then 0x00#8 else 0x80#8) ∧
    (frames a e).extractLsb' 0 8 = (a &&& 0xFF#16).setWidth 8 ∧
    frames a e = BitVec.ofBool (a.getLsbD 15 || !e) ++ a.extractLsb' 0 15

/-- R102, R108: a read in range sends the address itself and a write sends it with bit 15 set; bit 15 of the
address forces OE_n to 1, and the three spellings of R108 alias. -/
def Obligations.FramesAliasAboveTheAddressRange : Prop :=
  ∀ a : Half,
    frames a true = a ∧ frames a false = a ||| 0x8000#16 ∧
    (∀ e, a.getLsbD 15 = true → (frames a e).getLsbD 15 = true) ∧
    frames (a ||| 0x8000#16) true = frames a false ∧
    frames (a ||| 0x8000#16) false = frames a false

/-- R29, R109, R112: while OUT holds the frames of an enabled address below 0x8000, the device sees
`ADDR & MAX_ADDR` and drives that cell; while OE_n = 1 it drives nothing. -/
def Obligations.DeviceDrivesTheLatchedCell : Prop :=
  ∀ (s : State) (a : Half) (e : Bool), s.out = frames a e →
    s.devAddr.toNat = a.toNat % (s.cfg.maxAddr.toNat + 1) ∧
    (e = true → a.getLsbD 15 = false → s.pending = none →
      s.deviceDrives = some (s.mem.read (a.toNat % (s.cfg.maxAddr.toNat + 1)))) ∧
    (e = false ∨ a.getLsbD 15 = true → s.deviceDrives = none)

/-! ### One step (R8, R120, R124, R126) -/

/-- R120: the request that the port presents and the decoder reads is the one that runs, and the tick adds
the device countdown, the contention check and the count of the tick. (Over a stuck device no request runs:
`StuckTickIsTheSameState`.) -/
def Obligations.StepRunsTheDecodedRequest : Prop :=
  ∀ (s : State) (i : Instr), s.cfg.valid = true → s.input.reset = false → s.deviceStuck = false →
    s.input.reqValid = true → decode s.input.reqWord = .ok i → i.wellFormed = true →
    step s = onNext (exec i s.takeInput) (endTick s.pending)

/-- R120, R57: while the device is stuck a tick without RESET is the same state (but for the model's own inputs
and tick number), whatever the port presents. (That a reset tick still sets the registers of R170, and that
it leaves the device stuck with its pending write, is the model's choice, log 9.) -/
def Obligations.StuckTickIsTheSameState : Prop :=
  ∀ s : State, s.cfg.valid = true → s.deviceStuck = true →
    (s.input.reset = false → step s = .next s.takeInput.countTick) ∧
    (s.input.reset = true → ∃ t, step s = .next t ∧ t.state = .idle ∧ t.deviceStuck = true ∧
      t.pending = s.pending ∧ t.mem = s.mem)

/-- R8, R23: a configuration that breaks a bound has no run. -/
def Obligations.InvalidConfigurationHasNoStep : Prop :=
  ∀ s : State,
    (s.cfg.pTick = 0 ∨ s.cfg.pWeTicks = 0 ∨ s.cfg.pSettleTicks = 0 ∨
      s.cfg.pWeTicks * s.cfg.pTick < 1000 ∨ s.cfg.pSettleTicks * s.cfg.pTick < 6000000 ∨
      2 ^ 32 ≤ s.cfg.pWeTicks ∨ 2 ^ 32 ≤ s.cfg.pSettleTicks ∨ 2 ^ 32 ≤ s.cfg.pReadSetupTicks) →
    step s = .refused .invalidConfig

/-- R124, whole: an IDLE tick without a request changes nothing but the device countdown (and the model's own
inputs and tick number), and IDLE is `ready`. In IDLE nobody contends (`State.overlapOk`). -/
def Obligations.IdleTickWithoutRequestOnlyCountsDown : Prop :=
  ∀ s : State, s.cfg.valid = true → s.input.reset = false → s.input.reqValid = false →
    s.state = .idle → s.contending = false →
    step s = .next (s.takeInput.settle s.pending).countTick ∧ s.ready = true

/-- R126: in every state but IDLE the port's request changes nothing: any two presentations lead to the same
outcome as none. -/
def Obligations.BusyTickIgnoresTheRequest : Prop :=
  ∀ (s : State) (v : Bool) (w : Word) (rest : List Input), s.state ≠ .idle →
    step { s with inputs := ⟨false, v, w⟩ :: rest } = step { s with inputs := Input.quiet :: rest }

/-- R126, R100, R127, R134: the meaning of every request outside IDLE is the state's own action. -/
def Obligations.RequestOutsideIdleIsNotAccepted : Prop :=
  ∀ (i : Instr) (s : State), s.state ≠ .idle → exec i s = ownAction s

/-- R35, R26: the status outputs as functions of the state; `rdata` is RDATA while RDATA_VALID = 1. (While it is
0, what the port reads is a free value, log 15, and not stated.) -/
def Obligations.StatusOutputsFollowTheState : Prop :=
  ∀ s : State,
    (s.ready = true ↔ s.state = .idle) ∧
    (s.busy = true ↔ s.state ≠ .idle ∧ s.state ≠ .fault) ∧
    (s.isDone = true ↔ s.state = .done) ∧ (s.isFault = true ↔ s.state = .fault) ∧
    s.faultCodeOut = s.faultCode ∧ s.rdataValidOut = s.rdataValid ∧
    (s.rdataValid = true → s.rdataOut = s.rdata)

/-! ### Acceptance (R125, R152 to R157) -/

/-- R125, whole: what an IDLE tick with `req_valid` = 1 does, in the order of the rule's checks, from the raw
fields of the word. The tick ends as every tick does (R120). -/
def Obligations.AcceptanceFollowsTheRule : Prop :=
  ∀ (s : State) (w : Word), s.cfg.valid = true → s.deviceStuck = false → s.state = .idle →
    s.input = ⟨false, true, w⟩ →
    let op := w.extractLsb' 30 2
    let a : Half := w.extractLsb' 8 16
    let e := w.getLsbD 24
    let v : Byte := w.extractLsb' 0 8
    let s1 : State := { s.takeInput with trace := s.trace ++ [.accept op a e v] }
    let raise (code : BitVec 2) : State :=
      { s1 with trace := s1.trace ++ [.fault code], faultCode := code, state := .fault }
    step s = .next (endTick s.pending (
      if legalWord w = false then raise 1#2
      else if op = 1#2 then
        if (frames a e).getLsbD 15 = false ∧ s.ddir = .output then raise 3#2
        else { s1 with op := op, addr := a, oe := e, data := v, frame := frames a e, idx := 0#4,
                       state := .shift }
      else if op = 2#2 then
        if s.cfg.maxAddr < a then raise 2#2
        else { s1 with op := op, addr := a, oe := e, data := v, rdataValid := false, state := .dirIn }
      else
        if s.cfg.maxAddr < a then raise 2#2
        else { s1 with op := op, addr := a, oe := e, data := v, state := .dirOut }))

/-- R100: a SET_ADDRESS that does not open a contention is accepted: its fields and frames are captured, the
shifting begins, and nothing else changes. -/
def Obligations.SetaddrIsAccepted : Prop :=
  ∀ (a : Half) (e : Bool) (s : State), s.state = .idle →
    ((frames a e).getLsbD 15 = true ∨ s.ddir = .input) →
    exec (.setaddr a e) s = .next { s with
      trace := s.trace ++ [.accept 1#2 a e 0#8], op := 1#2, addr := a, oe := e, data := 0#8,
      frame := frames a e, idx := 0#4, state := .shift }

/-- R127: a READ_BYTE of a device address is accepted: its fields are captured, RDATA_VALID is cleared,
DIR_IN follows, and nothing else changes. -/
def Obligations.RdbIsAccepted : Prop :=
  ∀ (a : Half) (s : State), s.state = .idle → a ≤ s.cfg.maxAddr →
    exec (.rdb a) s = .next { s with
      trace := s.trace ++ [.accept 2#2 a false 0#8], op := 2#2, addr := a, oe := false, data := 0#8,
      rdataValid := false, state := .dirIn }

/-- R134: a WRITE_BYTE to a device address is accepted: its fields are captured, DIR_OUT follows, and nothing
else changes. -/
def Obligations.WrbIsAccepted : Prop :=
  ∀ (a : Half) (v : Byte) (s : State), s.state = .idle → a ≤ s.cfg.maxAddr →
    exec (.wrb a v) s = .next { s with
      trace := s.trace ++ [.accept 3#2 a false v], op := 3#2, addr := a, oe := false, data := v,
      state := .dirOut }

/-- R157: a SET_ADDRESS that would latch OE_n = 0 while DDIR = OUT raises BUS_CONTENTION, which writes
FAULT_CODE, STATE and the trace alone. -/
def Obligations.SetaddrAgainstTheDriverRaisesBusContention : Prop :=
  ∀ (a : Half) (s : State), s.state = .idle → s.ddir = .output → a.getLsbD 15 = false →
    exec (.setaddr a true) s = .next { s with
      trace := s.trace ++ [.accept 1#2 a true 0#8, .fault 3#2], faultCode := 3#2, state := .fault }

/-- R156: a READ_BYTE or WRITE_BYTE above MAX_ADDR, 0x1FFF for KB8 and 0x7FFF for KB32, raises ADDR_RANGE,
which writes FAULT_CODE, STATE and the trace alone. -/
def Obligations.AddressAboveTheRangeRaisesAddrRange : Prop :=
  ∀ (a : Half) (v : Byte) (s : State), s.state = .idle →
    ((s.cfg.variant = .kb8 ∧ 0x1FFF#16 < a) ∨ (s.cfg.variant = .kb32 ∧ 0x7FFF#16 < a)) →
    exec (.rdb a) s = .next { s with
      trace := s.trace ++ [.accept 2#2 a false 0#8, .fault 2#2], faultCode := 2#2, state := .fault } ∧
    exec (.wrb a v) s = .next { s with
      trace := s.trace ++ [.accept 3#2 a false v, .fault 2#2], faultCode := 2#2, state := .fault }

/-- R155, whole: ILLEGAL_REQUEST is raised exactly by the accepted words with OP = 00, a nonzero reserved
field, a nonzero E outside SET_ADDRESS or a nonzero V outside WRITE_BYTE. -/
def Obligations.IllegalWordsRaiseIllegalRequest : Prop :=
  ∀ (s : State) (w : Word), s.cfg.valid = true → s.deviceStuck = false → s.state = .idle →
    s.input = ⟨false, true, w⟩ →
    ∃ t, step s = .next t ∧
      ((t.state = .fault ∧ t.faultCode = 1#2) ↔
        (w.extractLsb' 30 2 = 0#2 ∨ w.extractLsb' 25 5 ≠ 0#5 ∨
          ((w.extractLsb' 30 2 = 2#2 ∨ w.extractLsb' 30 2 = 3#2) ∧ w.getLsbD 24 = true) ∨
          ((w.extractLsb' 30 2 = 1#2 ∨ w.extractLsb' 30 2 = 2#2) ∧ w.extractLsb' 0 8 ≠ 0#8)))

/-- R152, whole: fault entry from IDLE records its code, goes to FAULT, keeps the Accept event and discards
every other write of the tick; the outputs afterwards are those of the rule. The device countdown is
physical time and goes on (R120). -/
def Obligations.FaultEntryDiscardsTheRestOfTheTick : Prop :=
  ∀ s t : State, s.state = .idle → s.contending = false → step s = .next t → t.state = .fault →
    (∃ op a e v code, code ≠ 0#2 ∧
      t = (State.settle s.pending { s.takeInput with
              trace := s.trace ++ [.accept op a e v, .fault code], faultCode := code,
              state := .fault }).countTick) ∧
    t.isFault = true ∧ t.ready = false ∧ t.busy = false ∧ t.isDone = false ∧
    t.faultCodeOut = t.faultCode ∧ t.rdata = s.rdata ∧ t.rdataValid = s.rdataValid ∧ t.weN = s.weN

/-- R151, whole: a fault is raised only in a tick that accepts a request, and nothing of the request has
reached the device, the shift registers, DDIR, DOUT or WE_n. -/
def Obligations.FaultIsRaisedOnlyAtAcceptance : Prop :=
  ∀ s t : State, step s = .next t → t.state = .fault → s.state ≠ .fault →
    s.state = .idle ∧ s.input.reqValid = true ∧ s.input.reset = false ∧
    t.sr = s.sr ∧ t.out = s.out ∧ t.ddir = s.ddir ∧ t.dout = s.dout ∧ t.weN = s.weN ∧ t.ser = s.ser ∧
    t.deviceStuck = s.deviceStuck ∧ t.mem = (s.settle s.pending).mem ∧
    t.pending = (s.settle s.pending).pending

/-- R153: a tick in FAULT changes nothing but the device countdown, whatever the port presents; only reset
leaves FAULT, and it clears FAULT_CODE. In FAULT nobody contends (`State.overlapOk`). (That a reset leaves FAULT
over a stuck device too is the model's choice, log 9.) -/
def Obligations.FaultIsLeftOnlyByReset : Prop :=
  ∀ s : State, s.cfg.valid = true → s.state = .fault → s.contending = false →
    (s.input.reset = false → step s = .next (s.takeInput.settle s.pending).countTick) ∧
    (s.input.reset = true → ∃ t, step s = .next t ∧ t.state = .idle ∧ t.faultCode = 0#2)

/-! ### The ticks of a request (R103, R104, R121, R130 to R138)

Each is a whole tick, so the device countdown, the contention check and the count of the tick (`endTick`)
are applied to the state's own action. -/

/-- R103, whole: SHIFT step k shifts F[15 - k] into SR, leaves OUT, DDIR, DOUT and WE_n alone, and goes on to
step k + 1 or to LATCH. -/
def Obligations.ShiftTickShiftsOneFrameBit : Prop :=
  ∀ s : State, s.cfg.valid = true → s.input.reset = false → s.deviceStuck = false →
    s.state = .shift →
    let b := s.frame.getLsbD (15 - s.idx.toNat)
    step s = .next (endTick s.pending { s.takeInput with
      ser := b, srclk := false, sr := s.sr.extractLsb' 0 15 ++ BitVec.ofBool b,
      trace := s.trace ++ [.shift b],
      idx := if s.idx.toNat = 15 then 0#4 else s.idx + 1#4,
      state := if s.idx.toNat = 15 then .latch else .shift })

/-- R104, whole: LATCH copies SR to OUT, all 16 bits at once, and goes on by OP; no other tick writes OUT. -/
def Obligations.LatchTickCommitsTheAddress : Prop :=
  (∀ s : State, s.cfg.valid = true → s.input.reset = false → s.deviceStuck = false →
    s.state = .latch →
    let u : State := { s.takeInput with out := s.sr, rclk := false, trace := s.trace ++ [.latch s.sr] }
    (s.op = 1#2 → step s = .next (endTick s.pending { u with state := .done })) ∧
    (s.op = 2#2 → s.cfg.pReadSetupTicks = 0 →
      step s = .next (endTick s.pending { u with idx := 0#4, state := .rdSample })) ∧
    (s.op = 2#2 → s.cfg.pReadSetupTicks ≠ 0 →
      step s = .next (endTick s.pending { u with
        timer := BitVec.ofNat 32 s.cfg.pReadSetupTicks, state := .rdWait })) ∧
    (s.op = 3#2 → step s = .next (endTick s.pending { u with idx := 0#4, state := .wrDrive }))) ∧
  (∀ s t : State, step s = .next t → t.out ≠ s.out → s.state = .latch ∧ s.input.reset = false)

/-- R130: DIR_IN points the data bus in, clears ACC and loads the frames of a read. -/
def Obligations.DirInTickReleasesTheBus : Prop :=
  ∀ s : State, s.cfg.valid = true → s.input.reset = false → s.deviceStuck = false →
    s.state = .dirIn →
    step s = .next (endTick s.pending { s.takeInput with
      ddir := .input, trace := s.trace ++ [.dir .input], acc := 0#8, frame := frames s.addr true,
      idx := 0#4, state := .shift })

/-- R131, R34, R123: RD_SAMPLE step i shifts D_IN[7 - i] into ACC. D_IN is the cell the device drives when it
alone drives the bus and its access time has passed, and a free value otherwise; the last sample writes
RDATA and RDATA_VALID. -/
def Obligations.SampleTickReadsOneDataLine : Prop :=
  ∀ s : State, s.cfg.valid = true → s.input.reset = false → s.deviceStuck = false →
    s.state = .rdSample → s.idx.toNat ≤ 7 →
    let driven := s.ddir = .input ∧ s.out.getLsbD 15 = false ∧ s.pending = none ∧
      s.cfg.accessTicks ≤ s.cfg.pReadSetupTicks + s.idx.toNat
    ∃ d : Byte, (driven → d = s.mem.read s.devAddr.toNat) ∧
      (¬ driven → d = Config.drawBus s.ticks) ∧
      let b := d.getLsbD (7 - s.idx.toNat)
      let acc' : Byte := s.acc.extractLsb' 0 7 ++ BitVec.ofBool b
      let u : State := { s.takeInput with acc := acc', trace := s.trace ++ [.sample s.idx.toNat b] }
      step s = .next (endTick s.pending (
        if s.idx.toNat = 7 then
          { u with rdata := acc', rdataValid := true, idx := 0#4, state := .done }
        else { u with idx := s.idx + 1#4 }))

/-- R133: DONE emits the request's Done event, with RDATA for a READ_BYTE, and goes back to IDLE;
`done` is 1 in this tick only. -/
def Obligations.DoneTickReportsTheRequest : Prop :=
  ∀ s : State, s.cfg.valid = true → s.input.reset = false → s.deviceStuck = false →
    s.state = .done →
    s.isDone = true ∧
    step s = .next (endTick s.pending { s.takeInput with
      trace := s.trace ++ [.done s.op (if s.op = 2#2 then some s.rdata else none)],
      state := .idle })

/-- R135: DIR_OUT points the data bus out before the address message, and loads the frames of a
write. -/
def Obligations.DirOutTickTakesTheBus : Prop :=
  ∀ s : State, s.cfg.valid = true → s.input.reset = false → s.deviceStuck = false →
    s.state = .dirOut →
    step s = .next (endTick s.pending { s.takeInput with
      ddir := .output, trace := s.trace ++ [.dir .output], frame := frames s.addr false,
      idx := 0#4, state := .shift })

/-- R136, whole: WR_DRIVE step i sets DOUT[i] to DATA[i] and leaves DOUT's other bits; after the last step
WE_n falls. -/
def Obligations.DriveTickSetsOneDataLine : Prop :=
  ∀ s : State, s.cfg.valid = true → s.input.reset = false → s.deviceStuck = false →
    s.state = .wrDrive → s.idx.toNat ≤ 7 →
    ∃ d : Byte,
      (∀ j, j < 8 → d.getLsbD j = if j = s.idx.toNat then s.data.getLsbD j else s.dout.getLsbD j) ∧
      let b := s.data.getLsbD s.idx.toNat
      (s.idx.toNat < 7 → step s = .next (endTick s.pending { s.takeInput with
        dout := d, trace := s.trace ++ [.drive s.idx.toNat b], idx := s.idx + 1#4 })) ∧
      (s.idx.toNat = 7 → step s = .next (endTick s.pending { s.takeInput with
        dout := d, trace := s.trace ++ [.drive 7 b, .weFall], weN := false,
        timer := BitVec.ofNat 32 s.cfg.pWeTicks, idx := 0#4, state := .wrWeLow }))

/-- R137, R56: the last WR_WE_LOW tick raises WE_n and the device captures; every other one only counts
(TIMER = 0 is met by no run, `State.timerOk`, and is left out, log 11). What is captured: DEVADDR, and DOUT when
the controller alone drives the bus, with the settle time to go. -/
def Obligations.WeLowTickEndsInTheDeviceCapture : Prop :=
  ∀ s : State, s.cfg.valid = true → s.input.reset = false → s.deviceStuck = false →
    s.state = .wrWeLow →
    (1 ≤ s.timer.toNat → s.timer ≠ 1#32 →
      step s = .next (endTick s.pending { s.takeInput with timer := s.timer - 1#32 })) ∧
    (s.timer = 1#32 → s.pending = none →
      ∃ d : Byte, (s.ddir = .output → s.out.getLsbD 15 = true → d = s.dout) ∧
        step s = .next (endTick none { s.takeInput with
          trace := s.trace ++ [.weRise], weN := true,
          pending := some ⟨s.devAddr, d, 6000000⟩,
          timer := BitVec.ofNat 32 s.cfg.pSettleTicks, state := .wrSettle }))

/-- R57, U3 (that the tick of the edge itself is carried out, and that PENDING keeps the earlier write, is the
model's choice, log 9): a WE_n rising edge while a write is pending leaves the device stuck, with the pending
write and the cells as they are. -/
def Obligations.WriteDuringSettleLeavesTheDeviceStuck : Prop :=
  ∀ s : State, s.cfg.valid = true → s.input.reset = false → s.deviceStuck = false →
    s.state = .wrWeLow → s.timer = 1#32 →
    s.pending ≠ none →
    step s = .next (endTick s.pending { s.takeInput with
      trace := s.trace ++ [.weRise], weN := true, deviceStuck := true,
      timer := BitVec.ofNat 32 s.cfg.pSettleTicks, state := .wrSettle }) ∧
    ∀ t, step s = .next t → t.pending = s.pending ∧ t.mem = s.mem

/-- R121, R132, R137, R138: RD_WAIT, WR_WE_LOW and WR_SETTLE entered with TIMER = N last exactly N ticks; and a tick of
RD_WAIT or WR_SETTLE changes nothing but TIMER and, at its exit, IDX and STATE. (What the last WR_WE_LOW tick
changes is `WeLowTickEndsInTheDeviceCapture`. That it moves to WR_SETTLE over a pending write too, where its edge
leaves the device stuck, is the model's choice, log 9, a DESIGN CHOICE.) -/
def Obligations.TimedStateLastsItsCount : Prop :=
  ∀ s : State, s.cfg.valid = true → s.deviceStuck = false → 1 ≤ s.timer.toNat →
    s.noReset s.timer.toNat → (s.state = .rdWait ∨ s.state = .wrWeLow ∨ s.state = .wrSettle) →
    (∀ k, k < s.timer.toNat →
      ∃ u, run k s = .next u ∧ u.state = s.state ∧ u.timer.toNat = s.timer.toNat - k) ∧
    (∃ u, run s.timer.toNat s = .next u ∧
      u.state = (if s.state = .rdWait then .rdSample
                 else if s.state = .wrWeLow then .wrSettle else .done)) ∧
    (s.timer ≠ 1#32 →
      step s = .next (endTick s.pending { s.takeInput with timer := s.timer - 1#32 })) ∧
    (s.timer = 1#32 → s.state = .rdWait →
      step s = .next (endTick s.pending { s.takeInput with
        timer := 0#32, idx := 0#4, state := .rdSample })) ∧
    (s.timer = 1#32 → s.state = .wrSettle →
      step s = .next (endTick s.pending { s.takeInput with timer := 0#32, state := .done }))

/-! ### The device (R57, R59) -/

/-- R57: in every tick that starts with a pending write, that write counts down by P_TICK or commits to its
one cell, unless the device is stuck; then it stays. (Under DEVICE_RETAINS, R58.) -/
def Obligations.PendingWriteCountsDownAndCommits : Prop :=
  ∀ (s t : State) (p : PendingWrite), s.cfg.deviceRetains = true → s.pending = some p →
    step s = .next t →
    (t.deviceStuck = true → t.pending = some p ∧ t.mem = s.mem) ∧
    (t.deviceStuck = false →
      (p.remaining ≤ s.cfg.pTick → t.pending = none ∧ t.mem = s.mem.write p.addr.toNat p.value) ∧
      (s.cfg.pTick < p.remaining →
        t.pending = some { p with remaining := p.remaining - s.cfg.pTick } ∧ t.mem = s.mem))

/-- R55, R57, R59: a cell changes only in the tick in which a pending write to it commits; no read and no
SET_ADDRESS changes a cell. -/
def Obligations.CellChangesOnlyWhenItsWriteCommits : Prop :=
  ∀ (s t : State) (a : Nat), Memory.wf s.cfg.maxAddr.toNat s.mem = true → step s = .next t →
    t.mem.read a ≠ s.mem.read a →
    ∃ p, s.pending = some p ∧ p.addr.toNat = a ∧ p.remaining ≤ s.cfg.pTick ∧ s.deviceStuck = false

/-! ### Who writes what (R24, R26, R27, R30, R31, R39, R107) -/

/-- R107: the device's lines OUT change only in a LATCH tick without RESET, and then to SR as a whole. -/
def Obligations.PinsChangeOnlyAtLatch : Prop :=
  ∀ s t : State, step s = .next t →
    t.out = s.out ∨ (s.state = .latch ∧ s.input.reset = false ∧ t.out = s.sr)

/-- R24: the request registers are written only in the tick that accepts a request, with its fields. -/
def Obligations.RequestRegistersAreWrittenOnlyAtAcceptance : Prop :=
  ∀ s t : State, step s = .next t →
    (t.op = s.op ∧ t.addr = s.addr ∧ t.oe = s.oe ∧ t.data = s.data) ∨
    (s.state = .idle ∧ s.input.reset = false ∧ s.input.reqValid = true ∧
      legalWord s.input.reqWord = true ∧
      t.op = s.input.reqWord.extractLsb' 30 2 ∧ t.addr = s.input.reqWord.extractLsb' 8 16 ∧
      t.oe = s.input.reqWord.getLsbD 24 ∧ t.data = s.input.reqWord.extractLsb' 0 8)

/-- R26: RDATA is written only in the last RD_SAMPLE tick, with RDATA_VALID set; RDATA_VALID is cleared only
by accepting a READ_BYTE, and by reset (R170). -/
def Obligations.ResultIsWrittenOnlyByTheLastSample : Prop :=
  ∀ s t : State, step s = .next t →
    (t.rdata ≠ s.rdata →
      s.state = .rdSample ∧ s.idx = 7#4 ∧ s.input.reset = false ∧ t.rdataValid = true) ∧
    (t.rdataValid = true → s.rdataValid = false → s.state = .rdSample ∧ s.idx = 7#4) ∧
    (t.rdataValid = false → s.rdataValid = true →
      s.input.reset = true ∨ (s.state = .idle ∧ t.state = .dirIn ∧ t.op = 2#2))

/-- R27: FAULT_CODE is written only by fault entry and by reset. -/
def Obligations.FaultCodeIsWrittenOnlyByFaultAndReset : Prop :=
  ∀ s t : State, step s = .next t → t.faultCode ≠ s.faultCode →
    (s.input.reset = true ∧ t.faultCode = 0#2) ∨
    (s.state = .idle ∧ t.state = .fault ∧
      (t.faultCode = 1#2 ∨ t.faultCode = 2#2 ∨ t.faultCode = 3#2))

/-- R30, R31, R32: DDIR is written only in DIR_IN, DIR_OUT and by reset; DOUT only in WR_DRIVE; ACC only in
DIR_IN and RD_SAMPLE. -/
def Obligations.DataPathIsWrittenOnlyInItsStates : Prop :=
  ∀ s t : State, step s = .next t →
    (t.ddir ≠ s.ddir →
      (s.state = .dirIn ∧ t.ddir = .input) ∨ (s.state = .dirOut ∧ t.ddir = .output) ∨
      (s.input.reset = true ∧ t.ddir = .input)) ∧
    (t.dout ≠ s.dout → s.state = .wrDrive ∧ s.input.reset = false) ∧
    (t.acc ≠ s.acc → (s.state = .dirIn ∨ s.state = .rdSample) ∧ s.input.reset = false)

/-- R39: the configuration is fixed for a run; R40: events are appended to the trace. (That a tick with
RESET = 1 keeps the trace as well, where R43's table has 'trace: empty', is the model's choice, log 24, a
DESIGN CHOICE: R40 does not say it.) -/
def Obligations.ConfigurationIsFixedAndTraceGrows : Prop :=
  ∀ s t : State, step s = .next t → t.cfg = s.cfg ∧ ∃ es, t.trace = s.trace ++ es

/-! ### Reset and power (R43, R170, R172, R174, R176) -/

/-- R43: what `State.reset` holds where the spec gives a value. (The values of OP, ADDR, OE, DATA, F, SR, OUT,
DOUT, ACC and RDATA are the model's, log 6, and are not stated.) -/
def Obligations.ResetValuesAreThoseOfTheSpec : Prop :=
  State.reset.state = .idle ∧ State.reset.idx = 0#4 ∧ State.reset.timer = 0#32 ∧
  State.reset.ddir = .input ∧ State.reset.rdataValid = false ∧ State.reset.faultCode = 0#2 ∧
  State.reset.ser = false ∧ State.reset.srclk = false ∧ State.reset.rclk = false ∧
  State.reset.weN = true ∧ State.reset.pending = none ∧ State.reset.trace = []

/-- R170: a tick with RESET = 1, whatever is in flight: the listed registers take their reset values and every
other register keeps its value; the device countdown still runs. In WR_WE_LOW the forced rise of WE_n is
a write edge, whose byte is a free value: it sets PENDING, or leaves the device stuck over a pending write
(R57). (That the trace is kept and that a stuck device captures nothing is the model's choice, log 24 and
log 9.) -/
def Obligations.ResetTickSetsTheListedRegisters : Prop :=
  ∀ s : State, s.cfg.valid = true → s.input.reset = true →
    let clear (u : State) : State :=
      { u with state := .idle, idx := 0#4, timer := 0#32, ddir := .input, weN := true, ser := false,
               srclk := false, rclk := false, faultCode := 0#2, rdataValid := false }
    let risen : State := { s.takeInput with trace := s.trace ++ [.weRise] }
    (s.state ≠ .wrWeLow → step s = .next ((clear s.takeInput).settle s.pending).countTick) ∧
    (s.state = .wrWeLow → s.deviceStuck = false → s.pending = none →
      step s = .next (clear { risen with
        pending := some ⟨s.devAddr, Config.drawWrite s.ticks, 6000000⟩ }).countTick) ∧
    (s.state = .wrWeLow → s.deviceStuck = false → s.pending ≠ none →
      step s = .next (clear { risen with deviceStuck := true }).countTick) ∧
    (s.state = .wrWeLow → s.deviceStuck = true → step s = .next (clear risen).countTick)

/-- R172: a reset in mid-request leaves SR, OUT and DOUT as they are; except in WR_WE_LOW it starts no device
write, so that without a write already pending it leaves the cells alone and nothing pending. (That a reset
tick over a stuck device is carried out too, so that `ready` is 1 after it, and leaves the device stuck, is the
model's choice, log 9, a DESIGN CHOICE.) -/
def Obligations.ResetInMidRequestStartsNoWrite : Prop :=
  ∀ s t : State, s.input.reset = true → step s = .next t →
    t.sr = s.sr ∧ t.out = s.out ∧ t.dout = s.dout ∧ t.ready = true ∧
    (s.state ≠ .wrWeLow → t.deviceStuck = s.deviceStuck ∧
      (s.pending = none → t.pending = none ∧ t.mem = s.mem)) ∧
    (s.state = .wrWeLow → s.pending ≠ none → s.deviceStuck = false → t.deviceStuck = true)

/-- R174, R175, R43: a run may start with any free values in the registers that R43 leaves unspecified, over
any cells in canonical form: the launch premise and the invariant hold. (That the device is not stuck, a clause of
`State.launch`, is the model's choice, log 25.) -/
def Obligations.PowerUpMeetsTheLaunchPremise : Prop :=
  ∀ (n : Nat) (c : Config) (m : Memory) (ins : List Input), Memory.wf c.maxAddr.toNat m = true →
    (powerUp n c m ins).launch ∧ (powerUp n c m ins).Inv ∧ (powerUp n c m ins).mem = m ∧
    (powerUp n c m ins).ddir = .input ∧ (powerUp n c m ins).weN = true

/-- R176: after a power loss every cell keeps its value but the cell of a write that was cut off after its
WE_n fell, which holds a free value; the write that left the device stuck is one of these (log 18).
(That the power loss ends the device's stuck state, a clause of `State.launch`, is the model's choice, log 25.) -/
def Obligations.PowerLossCutsOnlyTheWriteInFlight : Prop :=
  ∀ (s : State) (ins : List Input), s.Inv →
    (powerCycle ins s).launch ∧ (powerCycle ins s).cfg = s.cfg ∧
    ∀ a,
      let cut := (∃ p ∈ s.pending, p.addr.toNat = a) ∨
        ((s.state = .wrWeLow ∨ s.state = .wrSettle ∨ s.deviceStuck = true) ∧ s.devAddr.toNat = a)
      (¬ cut → (powerCycle ins s).mem.read a = s.mem.read a) ∧
      (cut → ∃ n, (powerCycle ins s).mem.read a = Config.drawLoss n)

/-! ### The invariant -/

/-- R43, R175: the invariant holds right after reset. -/
def Obligations.ResetMeetsTheInvariant : Prop := State.reset.Inv

/-- R22, R26, R28, R33, R105, R121, R140, R142, R150, R153, R181: every step keeps the invariant of the
sequencer and its device. (What a tick writes whose edge leaves the device stuck, and what a reset does to a
stuck device, is the model's choice, log 9.) -/
def Obligations.StepKeepsTheInvariant : Prop :=
  ∀ s t : State, s.Inv → step s = .next t → t.Inv

/-- From a state of the invariant every step under a valid configuration answers a next state: the stops of
the model are met by no run (R120, "a total function"). -/
def Obligations.StepIsTotalOnTheInvariant : Prop :=
  ∀ s : State, s.Inv → s.cfg.valid = true → ∃ t, step s = .next t

/-- R181: a Contend event is noted only at the end of the DIR_OUT tick or of a SHIFT tick of a WRITE_BYTE, and
only while the device was left enabled. (That a reset tick keeps the events of the trace is the model's choice,
log 24.) -/
def Obligations.ContentionOnlyAtAReadToWriteTurn : Prop :=
  ∀ s t : State, s.Inv → step s = .next t → t.trace.count .contend ≠ s.trace.count .contend →
    s.op = 3#2 ∧ (s.state = .dirOut ∨ s.state = .shift) ∧ s.out.getLsbD 15 = false ∧
    s.input.reset = false ∧ t.trace.count .contend = s.trace.count .contend + 1

/-- R143, R34, R123: in an RD_SAMPLE tick over a device with nothing pending, D_IN is the cell of ADDR; and once
the device's access time has passed, the byte that the sample reads its bit from is that cell. (That the
access time is a number of ticks is the model's choice, log 14.) -/
def Obligations.SamplesSeeTheAddressedCell : Prop :=
  ∀ s : State, s.Inv → s.state = .rdSample → s.pending = none →
    s.ddir = .input ∧ s.oeN = false ∧ s.devAddr.toNat = s.addr.toNat ∧
    s.dIn = s.mem.read s.addr.toNat ∧
    (s.cfg.accessTicks ≤ s.cfg.pReadSetupTicks + s.idx.toNat →
      s.sampleByte s.idx.toNat = s.mem.read s.addr.toNat)

/-! ### Whole requests (R58, R105, R106, R139 to R142, R190) -/

/-- R139, R100, R105, R106, R111: the 19 ticks of a SET_ADDRESS lead exactly to its one-step form: OUT holds the
frames, sixteen Shift events and one Latch event are noted, and nothing else changes. Over a pending write
(R57) the same holds but for the device's own countdown, which goes on for the 19 ticks and commits the write
if it has no more to go (under DEVICE_RETAINS, R58). -/
def Obligations.SetaddrRunsToItsEffect : Prop :=
  ∀ (s : State) (a : Half) (e : Bool),
    (s.ReadyFor (.setaddr a e) →
      run (busyTicks s.cfg (.setaddr a e) + 1) s = .next (setaddrWhole a e s)) ∧
    (s.ReadyOver (.setaddr a e) → s.cfg.deviceRetains = true → ∀ p, s.pending = some p →
      run (busyTicks s.cfg (.setaddr a e) + 1) s = .next (
        if p.remaining ≤ 19 * s.cfg.pTick then
          { setaddrWhole a e s with mem := s.mem.write p.addr.toNat p.value, pending := none }
        else
          { setaddrWhole a e s with
            pending := some { p with remaining := p.remaining - 19 * s.cfg.pTick } }))

/-- R139, R127, R143: the ticks of a READ_BYTE lead exactly to its one-step form: RDATA holds the cell, under
the access-time assumption of R123. -/
def Obligations.RdbRunsToItsEffect : Prop :=
  ∀ (s : State) (a : Half), s.ReadyFor (.rdb a) → s.cfg.accessTicks ≤ s.cfg.pReadSetupTicks →
    run (busyTicks s.cfg (.rdb a) + 1) s = .next (rdbWhole a s)

/-- R139, R134, R140, R141, R181: the ticks of a WRITE_BYTE lead exactly to its one-step form: the cell holds the
value, nothing is pending, one WeFall and one WeRise and, after an enabled device, 17 Contend events are
noted. (Under DEVICE_RETAINS, R58.) -/
def Obligations.WrbRunsToItsEffect : Prop :=
  ∀ (s : State) (a : Half) (v : Byte), s.ReadyFor (.wrb a v) → s.cfg.deviceRetains = true →
    run (busyTicks s.cfg (.wrb a v) + 1) s = .next (wrbWhole a v s)

/-- R139: what the one-step forms say of MEM, OUT, DDIR, DOUT, RDATA and RDATA_VALID, row by row of the
rule's table. (That the ticks lead to these forms is said by the three statements above.) -/
def Obligations.OneStepFormsFollowTheTable : Prop :=
  ∀ (s : State) (a : Half) (e : Bool) (v : Byte),
    ((setaddrWhole a e s).mem = s.mem ∧ (setaddrWhole a e s).out = frames a e ∧
      (setaddrWhole a e s).ddir = s.ddir ∧ (setaddrWhole a e s).dout = s.dout ∧
      (setaddrWhole a e s).rdata = s.rdata ∧ (setaddrWhole a e s).rdataValid = s.rdataValid) ∧
    ((rdbWhole a s).mem = s.mem ∧ (rdbWhole a s).out = a ∧ (rdbWhole a s).ddir = .input ∧
      (rdbWhole a s).dout = s.dout ∧ (rdbWhole a s).rdata = s.mem.read a.toNat ∧
      (rdbWhole a s).rdataValid = true) ∧
    ((wrbWhole a v s).mem = s.mem.write a.toNat v ∧ (wrbWhole a v s).out = a ||| 0x8000#16 ∧
      (wrbWhole a v s).ddir = .output ∧ (wrbWhole a v s).dout = v ∧
      (wrbWhole a v s).rdata = s.rdata ∧ (wrbWhole a v s).rdataValid = s.rdataValid)

/-- R190, R141: from its accept tick on, a request is busy for exactly its count of ticks, is done in the last
of them, and is ready in the next; it holds WE_n low in exactly P_WE_TICKS of them if it is a WRITE_BYTE, in
none otherwise. -/
def Obligations.BusyTicksAreThoseOfTheTable : Prop :=
  ∀ (s : State) (i : Instr), s.Inv → s.ReadyFor i →
    (∀ k, 1 ≤ k → k ≤ busyTicks s.cfg i →
      ∃ u, run k s = .next u ∧ u.busy = true ∧ (u.isDone = true ↔ k = busyTicks s.cfg i) ∧
        (u.weN = false ↔ ((∃ a v, i = .wrb a v) ∧ 27 ≤ k ∧ k < 27 + s.cfg.pWeTicks))) ∧
    ∃ u, run (busyTicks s.cfg i + 1) s = .next u ∧ u.busy = false ∧ u.ready = true

/-- R58: under DEVICE_RETAINS (and R123's assumption that data is valid by the first sample), after a
WRITE_BYTE of v to A has run, and any ticks in which no reset comes in mid-write and no other WRITE_BYTE to
A is accepted, a READ_BYTE of A yields v. (The premise reads the accepted requests off the trace, which a reset
tick keeps by the model's choice, log 24.) -/
def Obligations.WrittenByteIsReadBack : Prop :=
  ∀ (s s2 : State) (a : Half) (v : Byte) (m : Nat),
    s.Inv → s.ReadyFor (.wrb a v) → s.cfg.deviceRetains = true →
    s.cfg.accessTicks ≤ s.cfg.pReadSetupTicks →
    run m (wrbWhole a v s) = .next s2 →
    (∀ k u, k < m → run k (wrbWhole a v s) = .next u → u.input.reset = true → ¬ u.midWrite) →
    (∀ v', Event.accept 3#2 a false v' ∉ s2.trace.drop (wrbWhole a v s).trace.length) →
    s2.ReadyFor (.rdb a) →
    run (busyTicks s.cfg (.wrb a v) + 1) s = .next (wrbWhole a v s) ∧
    ∃ t, run (busyTicks s2.cfg (.rdb a) + 1) s2 = .next t ∧ t.state = .idle ∧
      t.rdataValid = true ∧ t.rdata = v

/-! ### Assembly (R80) -/

/-- R80: each pseudo-instruction stands for its fixed request sequence. -/
def Obligations.PseudoInstructionsExpand : Prop :=
  (∀ m k, m < 65536 → k ≤ m →
    (expand (.dump m))[k]? = some (.rdb (BitVec.ofNat 16 k)) ∧
    (expand (.erase m))[k]? = some (.wrb (BitVec.ofNat 16 k) 0xFF#8)) ∧
  (∀ m, (expand (.dump m)).length = m + 1 ∧ (expand (.erase m)).length = m + 1) ∧
  (∀ (bs : List Nat) (k b : Nat), bs[k]? = some b →
    (expand (.wrblk bs))[k]? = some (.wrb (BitVec.ofNat 16 k) (BitVec.ofNat 8 b))) ∧
  (∀ bs : List Nat, (expand (.wrblk bs)).length = bs.length)

/-- R80: an operand that does not fit is an assembly error; one that fits is assembled. -/
def Obligations.OperandsOutOfRangeDoNotAssemble : Prop :=
  ∀ a e v : Nat,
    assembleSource (.setaddr a e) =
      (if a ≤ 65535 ∧ e ≤ 1 then .ok [.setaddr (BitVec.ofNat 16 a) (decide (e = 1))]
       else .error .outOfRange) ∧
    assembleSource (.rdb a) =
      (if a ≤ 65535 then .ok [.rdb (BitVec.ofNat 16 a)] else .error .outOfRange) ∧
    assembleSource (.wrb a v) =
      (if a ≤ 65535 ∧ v ≤ 255 then .ok [.wrb (BitVec.ofNat 16 a) (BitVec.ofNat 8 v)]
       else .error .outOfRange)
end

