-- ==== Sys2Proof/Laws/Bits.lean ====
section
/-! SUPPORT. Laws of the bits: what each bit of a word, a frame, a shift and a drive is. -/

namespace Sys2Proof

/-- Bit i of `{v[14:0], b}` (R28). -/
theorem getLsbD_shiftIn16 (v : Half) (b : Bool) (i : Nat) :
    (shiftIn16 v b).getLsbD i = if i = 0 then b else (decide (i < 16) && v.getLsbD (i - 1)) := by
  have h := @BitVec.getLsbD_append 15 1 i (v.extractLsb' 0 15) (BitVec.ofBool b)
  rw [show shiftIn16 v b = (v.extractLsb' 0 15 ++ BitVec.ofBool b) from rfl, h]
  by_cases hi : i = 0
  · simp [hi]
  · rw [if_neg (by omega), if_neg hi, BitVec.getLsbD_extractLsb', Nat.zero_add]
    congr 1
    exact decide_eq_decide.mpr (by omega)

/-- Bit i of `{v[6:0], b}` (R32). -/
theorem getLsbD_shiftIn8 (v : Byte) (b : Bool) (i : Nat) :
    (shiftIn8 v b).getLsbD i = if i = 0 then b else (decide (i < 8) && v.getLsbD (i - 1)) := by
  have h := @BitVec.getLsbD_append 7 1 i (v.extractLsb' 0 7) (BitVec.ofBool b)
  rw [show shiftIn8 v b = (v.extractLsb' 0 7 ++ BitVec.ofBool b) from rfl, h]
  by_cases hi : i = 0
  · simp [hi]
  · rw [if_neg (by omega), if_neg hi, BitVec.getLsbD_extractLsb', Nat.zero_add]
    congr 1
    exact decide_eq_decide.mpr (by omega)

/-- Bit j after `DOUT[i] <- b` (R136). -/
theorem getLsbD_setBit8 (v : Byte) (b : Bool) {i j : Nat} (hj : j < 8) :
    (setBit8 v i b).getLsbD j = if j = i then b else v.getLsbD j := by
  unfold setBit8
  cases b
  · by_cases h : j = i
    · subst h; simp [hj]
    · by_cases hlt : j < i
      · simp [h, hlt, hj]
      · have : j - i ≠ 0 := by omega
        simp [h, hlt, hj, this]
  · by_cases h : j = i
    · subst h; simp [hj]
    · by_cases hlt : j < i
      · simp [h, hlt, hj]
      · have : j - i ≠ 0 := by omega
        simp [h, hlt, hj, this]

/-- The fields of a packed word are what was packed (R71, R74). -/
theorem fields_packWord (op : BitVec 2) (e : Bool) (a : Half) (v : Byte) :
    opField (packWord op e a v) = op ∧ rsvField (packWord op e a v) = 0#5 ∧
    enableField (packWord op e a v) = e ∧ addrField (packWord op e a v) = a ∧
    valueField (packWord op e a v) = v := by
  have hp : ∀ i, i < 32 → (packWord op e a v).getLsbD i =
      ((decide (30 ≤ i) && op.getLsbD (i - 30)) || (decide (24 ≤ i) && decide (i - 24 = 0) && e) ||
        (decide (8 ≤ i) && a.getLsbD (i - 8)) || v.getLsbD i) := by
    intro i hi
    simp only [packWord, BitVec.getLsbD_or, BitVec.getLsbD_shiftLeft, BitVec.getLsbD_setWidth,
      BitVec.getLsbD_ofBool, hi, decide_true, Bool.true_and]
    have h1 : decide (i - 30 < 32) = true := by simp; omega
    have h2 : decide (i - 24 < 32) = true := by simp; omega
    have h3 : decide (i - 8 < 32) = true := by simp; omega
    have h4 : ∀ n, (!decide (i < n)) = decide (n ≤ i) := by
      intro n; by_cases h : i < n <;> simp [h]; omega
    rw [h1, h2, h3, h4, h4, h4]
    simp [Bool.and_assoc]
  have big : ∀ {n} (x : BitVec n) i, n ≤ i → x.getLsbD i = false := fun x i h =>
    BitVec.getLsbD_of_ge x i h
  refine ⟨?_, ?_, ?_, ?_, ?_⟩
  · apply BitVec.eq_of_getLsbD_eq
    intro i hi
    simp only [opField, BitVec.getLsbD_extractLsb', hi, decide_true, Bool.true_and]
    rw [hp _ (by omega), big a _ (by omega), big v _ (by omega), Nat.add_sub_cancel_left]
    have : decide (30 + i - 24 = 0) = false := by simp; omega
    simp [this]
  · apply BitVec.eq_of_getLsbD_eq
    intro i hi
    simp only [rsvField, BitVec.getLsbD_extractLsb', hi, decide_true, Bool.true_and]
    rw [hp _ (by omega), big a _ (by omega), big v _ (by omega)]
    have h1 : decide (30 ≤ 25 + i) = false := by simp; omega
    have h2 : decide (25 + i - 24 = 0) = false := by simp; omega
    simp [h1, h2]
  · rw [enableField, hp _ (by omega), big a _ (by omega), big v _ (by omega)]
    simp
  · apply BitVec.eq_of_getLsbD_eq
    intro i hi
    simp only [addrField, BitVec.getLsbD_extractLsb', hi, decide_true, Bool.true_and]
    rw [hp _ (by omega), big v _ (by omega), Nat.add_sub_cancel_left]
    have h1 : decide (30 ≤ 8 + i) = false := by simp; omega
    have h2 : decide (24 ≤ 8 + i) = false := by simp; omega
    simp [h1, h2]
  · apply BitVec.eq_of_getLsbD_eq
    intro i hi
    simp only [valueField, BitVec.getLsbD_extractLsb', hi, decide_true, Bool.true_and, Nat.zero_add]
    rw [hp _ (by omega)]
    have h1 : decide (30 ≤ i) = false := by simp; omega
    have h2 : decide (24 ≤ i) = false := by simp; omega
    have h3 : decide (8 ≤ i) = false := by simp; omega
    simp [h1, h2, h3]

namespace Machine

/-- Bit i of a pair of frames: bit 15 is OE_n, the others are the address's (R76). -/
theorem getLsbD_frames (a : Half) (e : Bool) (i : Nat) :
    (frames a e).getLsbD i = if i = 15 then (a.getLsbD 15 || !e) else a.getLsbD i := by
  have h := @BitVec.getLsbD_append 8 8 i (frame1 a e) (frame2 a)
  rw [show frames a e = (frame1 a e ++ frame2 a) from rfl, h]
  have big : ∀ {n} (x : BitVec n) i, n ≤ i → x.getLsbD i = false := fun x i h =>
    BitVec.getLsbD_of_ge x i h
  by_cases h16 : i < 16
  · have hc : i = 0 ∨ i = 1 ∨ i = 2 ∨ i = 3 ∨ i = 4 ∨ i = 5 ∨ i = 6 ∨ i = 7 ∨ i = 8 ∨ i = 9 ∨
        i = 10 ∨ i = 11 ∨ i = 12 ∨ i = 13 ∨ i = 14 ∨ i = 15 := by omega
    unfold frame1 frame2
    rcases hc with h | h | h | h | h | h | h | h | h | h | h | h | h | h | h | h <;> subst h <;>
      cases e <;> simp
  · rw [if_neg (by omega), if_neg (by omega), big _ _ (by omega), big a _ (by omega)]

end Machine

end Sys2Proof
end

