-- ==== Sys2Proof/Laws/Memory.lean ====
section
/-! SUPPORT. Laws of the cells: a read after a write, and the canonical form, which every memory operation
keeps. -/

namespace Sys2Proof.Machine

@[simp] theorem read_nil (a : Nat) : Memory.read [] a = unlistedByte := rfl

theorem read_cons_entry (k : Nat) (b : Byte) (m : Memory) (a : Nat) :
    Memory.read ((k, b) :: m) a = if k = a then b else m.read a := rfl

/-- A cell below every listed address is unlisted. -/
theorem read_below {limit lo : Nat} {m : Memory} (h : m.wfFrom limit lo = true) {a : Nat} (ha : a < lo) :
    m.read a = unlistedByte := by
  induction m generalizing lo with
  | nil => rfl
  | cons e m ih =>
    obtain ⟨k, b⟩ := e
    simp only [Memory.wfFrom, Bool.and_eq_true, decide_eq_true_eq] at h
    rw [read_cons_entry, if_neg (by omega)]
    exact ih h.2 (by omega)

/-- The form from `lo` on is the form from any lower address on. -/
theorem wfFrom_mono {limit lo lo' : Nat} {m : Memory} (h : m.wfFrom limit lo = true) (hle : lo' ≤ lo) :
    m.wfFrom limit lo' = true := by
  cases m with
  | nil => rfl
  | cons e m =>
    obtain ⟨k, b⟩ := e
    simp only [Memory.wfFrom, Bool.and_eq_true, decide_eq_true_eq] at h ⊢
    exact ⟨⟨⟨by omega, h.1.1.2⟩, h.1.2⟩, h.2⟩

theorem read_cons {limit : Nat} {m : Memory} {a : Nat} (h : m.wfFrom limit (a + 1) = true) (v : Byte)
    (x : Nat) : (Memory.cons a v m).read x = if x = a then v else m.read x := by
  unfold Memory.cons
  by_cases hx : x = a
  · subst hx
    split
    · next hv => rw [read_below h (by omega), if_pos rfl, hv]
    · simp [read_cons_entry]
  · split
    · simp
    · simp [read_cons_entry, Ne.symm hx]

/-- Reading after a write, everywhere: the written cell gives the value, every other cell what it gave
before. -/
theorem read_write {limit lo : Nat} {m : Memory} (h : m.wfFrom limit lo = true) (a : Nat) (v : Byte)
    (x : Nat) : (m.write a v).read x = if x = a then v else m.read x := by
  induction m generalizing lo with
  | nil => exact read_cons (limit := limit) rfl v x
  | cons e m ih =>
    obtain ⟨k, b⟩ := e
    simp only [Memory.write]
    split
    · next hak =>
      refine read_cons (limit := limit) ?_ v x
      simp only [Memory.wfFrom, Bool.and_eq_true, decide_eq_true_eq] at h ⊢
      exact ⟨⟨⟨by omega, h.1.1.2⟩, h.1.2⟩, h.2⟩
    · simp only [Memory.wfFrom, Bool.and_eq_true, decide_eq_true_eq] at h
      split
      · next hak =>
        subst hak
        rw [read_cons h.2, read_cons_entry]
        by_cases hx : x = a
        · simp [hx]
        · simp [hx, Ne.symm hx]
      · next h1 h2 =>
        rw [read_cons_entry, ih h.2, read_cons_entry]
        by_cases hk : k = x
        · subst hk
          simp [Ne.symm h2]
        · simp [hk]

theorem wfFrom_consCell {limit a : Nat} {m : Memory} (h : m.wfFrom limit (a + 1) = true) (v : Byte)
    {lo : Nat} (hlo : lo ≤ a) (hal : a ≤ limit) : (Memory.cons a v m).wfFrom limit lo = true := by
  unfold Memory.cons
  split
  · exact wfFrom_mono h (by omega)
  · next hv => simp [Memory.wfFrom, h, hlo, hal, hv]

theorem wfFrom_write {limit lo : Nat} {m : Memory} (h : m.wfFrom limit lo = true) (v : Byte) {a : Nat}
    (hlo : lo ≤ a) (hal : a ≤ limit) : (m.write a v).wfFrom limit lo = true := by
  induction m generalizing lo with
  | nil => exact wfFrom_consCell rfl v hlo hal
  | cons e m ih =>
    obtain ⟨k, b⟩ := e
    have h0 := h
    simp only [Memory.wfFrom, Bool.and_eq_true, decide_eq_true_eq] at h
    simp only [Memory.write]
    split
    · next hak =>
      refine wfFrom_consCell ?_ v hlo hal
      simp only [Memory.wfFrom, Bool.and_eq_true, decide_eq_true_eq]
      exact ⟨⟨⟨by omega, h.1.1.2⟩, h.1.2⟩, h.2⟩
    · split
      · next hak =>
        subst hak
        exact wfFrom_consCell h.2 v hlo hal
      · simp only [Memory.wfFrom, Bool.and_eq_true, decide_eq_true_eq]
        exact ⟨⟨⟨h.1.1.1, h.1.1.2⟩, h.1.2⟩, ih h.2 (by omega)⟩

/-- A write to a cell that exists keeps the canonical form. -/
theorem wf_write {limit : Nat} {m : Memory} (h : m.wf limit = true) (v : Byte) {a : Nat}
    (ha : a ≤ limit) : (m.write a v).wf limit = true :=
  wfFrom_write h v (Nat.zero_le a) ha

/-- A written cell reads as the value written. -/
theorem read_write_same {limit : Nat} {m : Memory} (h : m.wf limit = true) (a : Nat) (v : Byte) :
    (m.write a v).read a = v := by rw [read_write h, if_pos rfl]

/-- Every other cell reads as before. -/
theorem read_write_other {limit : Nat} {m : Memory} (h : m.wf limit = true) {a x : Nat} (v : Byte)
    (hx : x ≠ a) : (m.write a v).read x = m.read x := by rw [read_write h, if_neg hx]

theorem eq_of_read_from {limit lo : Nat} {m m' : Memory} (h : m.wfFrom limit lo = true)
    (h' : m'.wfFrom limit lo = true) (heq : ∀ a, m.read a = m'.read a) : m = m' := by
  induction m generalizing lo m' with
  | nil =>
    cases m' with
    | nil => rfl
    | cons e m' =>
      obtain ⟨k, b⟩ := e
      have := heq k
      simp [Memory.wfFrom, read_cons_entry] at h' this
      exact absurd this.symm h'.1.2
  | cons e m ih =>
    obtain ⟨k, b⟩ := e
    have hw := h
    simp only [Memory.wfFrom, Bool.and_eq_true, decide_eq_true_eq, bne_iff_ne] at h
    cases m' with
    | nil =>
      have := heq k
      simp [read_cons_entry] at this
      exact absurd this h.1.2
    | cons e' m' =>
      obtain ⟨k', b'⟩ := e'
      have hw' := h'
      simp only [Memory.wfFrom, Bool.and_eq_true, decide_eq_true_eq, bne_iff_ne] at h'
      have hk : k = k' := by
        rcases Nat.lt_trichotomy k k' with hlt | he | hlt
        · have := heq k
          rw [read_cons_entry, if_pos rfl, read_cons_entry, if_neg (by omega),
            read_below h'.2 (by omega)] at this
          exact absurd this h.1.2
        · exact he
        · have := heq k'
          rw [read_cons_entry, if_neg (by omega), read_below h.2 (by omega), read_cons_entry,
            if_pos rfl] at this
          exact absurd this.symm h'.1.2
      subst hk
      have hb : b = b' := by
        have := heq k
        simpa [read_cons_entry] using this
      subst hb
      congr 1
      refine ih h.2 h'.2 fun a => ?_
      have ha := heq a
      rw [read_cons_entry, read_cons_entry] at ha
      by_cases hka : k = a
      · subst hka
        rw [read_below h.2 (by omega), read_below h'.2 (by omega)]
      · simpa [hka] using ha

/-- Memories in canonical form that read alike everywhere are equal data. -/
theorem eq_of_read {limit : Nat} {m m' : Memory} (h : m.wf limit = true) (h' : m'.wf limit = true)
    (heq : ∀ a, m.read a = m'.read a) : m = m' := eq_of_read_from h h' heq

end Sys2Proof.Machine
end

