-- ==== Sys2Proof/Laws/State.lean ====
section
/-! SUPPORT. Laws of the named updates of State: one lemma per field per update, so that no proof unfolds a
record update. -/

namespace Sys2Proof.Machine

variable (s : State)

/-! ### emit -/

@[simp] theorem emit_state (e : Event) : (s.emit e).state = s.state := rfl
@[simp] theorem emit_idx (e : Event) : (s.emit e).idx = s.idx := rfl
@[simp] theorem emit_timer (e : Event) : (s.emit e).timer = s.timer := rfl
@[simp] theorem emit_op (e : Event) : (s.emit e).op = s.op := rfl
@[simp] theorem emit_addr (e : Event) : (s.emit e).addr = s.addr := rfl
@[simp] theorem emit_oe (e : Event) : (s.emit e).oe = s.oe := rfl
@[simp] theorem emit_data (e : Event) : (s.emit e).data = s.data := rfl
@[simp] theorem emit_frame (e : Event) : (s.emit e).frame = s.frame := rfl
@[simp] theorem emit_rdata (e : Event) : (s.emit e).rdata = s.rdata := rfl
@[simp] theorem emit_rdataValid (e : Event) : (s.emit e).rdataValid = s.rdataValid := rfl
@[simp] theorem emit_faultCode (e : Event) : (s.emit e).faultCode = s.faultCode := rfl
@[simp] theorem emit_sr (e : Event) : (s.emit e).sr = s.sr := rfl
@[simp] theorem emit_out (e : Event) : (s.emit e).out = s.out := rfl
@[simp] theorem emit_ddir (e : Event) : (s.emit e).ddir = s.ddir := rfl
@[simp] theorem emit_dout (e : Event) : (s.emit e).dout = s.dout := rfl
@[simp] theorem emit_acc (e : Event) : (s.emit e).acc = s.acc := rfl
@[simp] theorem emit_ser (e : Event) : (s.emit e).ser = s.ser := rfl
@[simp] theorem emit_srclk (e : Event) : (s.emit e).srclk = s.srclk := rfl
@[simp] theorem emit_rclk (e : Event) : (s.emit e).rclk = s.rclk := rfl
@[simp] theorem emit_weN (e : Event) : (s.emit e).weN = s.weN := rfl
@[simp] theorem emit_mem (e : Event) : (s.emit e).mem = s.mem := rfl
@[simp] theorem emit_pending (e : Event) : (s.emit e).pending = s.pending := rfl
@[simp] theorem emit_deviceStuck (e : Event) : (s.emit e).deviceStuck = s.deviceStuck := rfl
@[simp] theorem emit_trace (e : Event) : (s.emit e).trace = s.trace ++ [e] := rfl
@[simp] theorem emit_inputs (e : Event) : (s.emit e).inputs = s.inputs := rfl
@[simp] theorem emit_ticks (e : Event) : (s.emit e).ticks = s.ticks := rfl
@[simp] theorem emit_cfg (e : Event) : (s.emit e).cfg = s.cfg := rfl

/-! ### takeInput -/

@[simp] theorem takeInput_state : s.takeInput.state = s.state := rfl
@[simp] theorem takeInput_idx : s.takeInput.idx = s.idx := rfl
@[simp] theorem takeInput_timer : s.takeInput.timer = s.timer := rfl
@[simp] theorem takeInput_op : s.takeInput.op = s.op := rfl
@[simp] theorem takeInput_addr : s.takeInput.addr = s.addr := rfl
@[simp] theorem takeInput_oe : s.takeInput.oe = s.oe := rfl
@[simp] theorem takeInput_data : s.takeInput.data = s.data := rfl
@[simp] theorem takeInput_frame : s.takeInput.frame = s.frame := rfl
@[simp] theorem takeInput_rdata : s.takeInput.rdata = s.rdata := rfl
@[simp] theorem takeInput_rdataValid : s.takeInput.rdataValid = s.rdataValid := rfl
@[simp] theorem takeInput_faultCode : s.takeInput.faultCode = s.faultCode := rfl
@[simp] theorem takeInput_sr : s.takeInput.sr = s.sr := rfl
@[simp] theorem takeInput_out : s.takeInput.out = s.out := rfl
@[simp] theorem takeInput_ddir : s.takeInput.ddir = s.ddir := rfl
@[simp] theorem takeInput_dout : s.takeInput.dout = s.dout := rfl
@[simp] theorem takeInput_acc : s.takeInput.acc = s.acc := rfl
@[simp] theorem takeInput_ser : s.takeInput.ser = s.ser := rfl
@[simp] theorem takeInput_srclk : s.takeInput.srclk = s.srclk := rfl
@[simp] theorem takeInput_rclk : s.takeInput.rclk = s.rclk := rfl
@[simp] theorem takeInput_weN : s.takeInput.weN = s.weN := rfl
@[simp] theorem takeInput_mem : s.takeInput.mem = s.mem := rfl
@[simp] theorem takeInput_pending : s.takeInput.pending = s.pending := rfl
@[simp] theorem takeInput_deviceStuck : s.takeInput.deviceStuck = s.deviceStuck := rfl
@[simp] theorem takeInput_trace : s.takeInput.trace = s.trace := rfl
@[simp] theorem takeInput_inputs : s.takeInput.inputs = s.inputs.tail := rfl
@[simp] theorem takeInput_ticks : s.takeInput.ticks = s.ticks := rfl
@[simp] theorem takeInput_cfg : s.takeInput.cfg = s.cfg := rfl

/-! ### countTick -/

@[simp] theorem countTick_state : s.countTick.state = s.state := rfl
@[simp] theorem countTick_idx : s.countTick.idx = s.idx := rfl
@[simp] theorem countTick_timer : s.countTick.timer = s.timer := rfl
@[simp] theorem countTick_op : s.countTick.op = s.op := rfl
@[simp] theorem countTick_addr : s.countTick.addr = s.addr := rfl
@[simp] theorem countTick_oe : s.countTick.oe = s.oe := rfl
@[simp] theorem countTick_data : s.countTick.data = s.data := rfl
@[simp] theorem countTick_frame : s.countTick.frame = s.frame := rfl
@[simp] theorem countTick_rdata : s.countTick.rdata = s.rdata := rfl
@[simp] theorem countTick_rdataValid : s.countTick.rdataValid = s.rdataValid := rfl
@[simp] theorem countTick_faultCode : s.countTick.faultCode = s.faultCode := rfl
@[simp] theorem countTick_sr : s.countTick.sr = s.sr := rfl
@[simp] theorem countTick_out : s.countTick.out = s.out := rfl
@[simp] theorem countTick_ddir : s.countTick.ddir = s.ddir := rfl
@[simp] theorem countTick_dout : s.countTick.dout = s.dout := rfl
@[simp] theorem countTick_acc : s.countTick.acc = s.acc := rfl
@[simp] theorem countTick_ser : s.countTick.ser = s.ser := rfl
@[simp] theorem countTick_srclk : s.countTick.srclk = s.srclk := rfl
@[simp] theorem countTick_rclk : s.countTick.rclk = s.rclk := rfl
@[simp] theorem countTick_weN : s.countTick.weN = s.weN := rfl
@[simp] theorem countTick_mem : s.countTick.mem = s.mem := rfl
@[simp] theorem countTick_pending : s.countTick.pending = s.pending := rfl
@[simp] theorem countTick_deviceStuck : s.countTick.deviceStuck = s.deviceStuck := rfl
@[simp] theorem countTick_trace : s.countTick.trace = s.trace := rfl
@[simp] theorem countTick_inputs : s.countTick.inputs = s.inputs := rfl
@[simp] theorem countTick_ticks : s.countTick.ticks = s.ticks + 1 := rfl
@[simp] theorem countTick_cfg : s.countTick.cfg = s.cfg := rfl

/-! ### raiseFault -/

@[simp] theorem raiseFault_state (c : BitVec 2) : (raiseFault c s).state = .fault := rfl
@[simp] theorem raiseFault_idx (c : BitVec 2) : (raiseFault c s).idx = s.idx := rfl
@[simp] theorem raiseFault_timer (c : BitVec 2) : (raiseFault c s).timer = s.timer := rfl
@[simp] theorem raiseFault_op (c : BitVec 2) : (raiseFault c s).op = s.op := rfl
@[simp] theorem raiseFault_addr (c : BitVec 2) : (raiseFault c s).addr = s.addr := rfl
@[simp] theorem raiseFault_oe (c : BitVec 2) : (raiseFault c s).oe = s.oe := rfl
@[simp] theorem raiseFault_data (c : BitVec 2) : (raiseFault c s).data = s.data := rfl
@[simp] theorem raiseFault_frame (c : BitVec 2) : (raiseFault c s).frame = s.frame := rfl
@[simp] theorem raiseFault_rdata (c : BitVec 2) : (raiseFault c s).rdata = s.rdata := rfl
@[simp] theorem raiseFault_rdataValid (c : BitVec 2) : (raiseFault c s).rdataValid = s.rdataValid := rfl
@[simp] theorem raiseFault_faultCode (c : BitVec 2) : (raiseFault c s).faultCode = c := rfl
@[simp] theorem raiseFault_sr (c : BitVec 2) : (raiseFault c s).sr = s.sr := rfl
@[simp] theorem raiseFault_out (c : BitVec 2) : (raiseFault c s).out = s.out := rfl
@[simp] theorem raiseFault_ddir (c : BitVec 2) : (raiseFault c s).ddir = s.ddir := rfl
@[simp] theorem raiseFault_dout (c : BitVec 2) : (raiseFault c s).dout = s.dout := rfl
@[simp] theorem raiseFault_acc (c : BitVec 2) : (raiseFault c s).acc = s.acc := rfl
@[simp] theorem raiseFault_ser (c : BitVec 2) : (raiseFault c s).ser = s.ser := rfl
@[simp] theorem raiseFault_srclk (c : BitVec 2) : (raiseFault c s).srclk = s.srclk := rfl
@[simp] theorem raiseFault_rclk (c : BitVec 2) : (raiseFault c s).rclk = s.rclk := rfl
@[simp] theorem raiseFault_weN (c : BitVec 2) : (raiseFault c s).weN = s.weN := rfl
@[simp] theorem raiseFault_mem (c : BitVec 2) : (raiseFault c s).mem = s.mem := rfl
@[simp] theorem raiseFault_pending (c : BitVec 2) : (raiseFault c s).pending = s.pending := rfl
@[simp] theorem raiseFault_deviceStuck (c : BitVec 2) : (raiseFault c s).deviceStuck = s.deviceStuck := rfl
@[simp] theorem raiseFault_trace (c : BitVec 2) : (raiseFault c s).trace = s.trace ++ [.fault c] := rfl
@[simp] theorem raiseFault_inputs (c : BitVec 2) : (raiseFault c s).inputs = s.inputs := rfl
@[simp] theorem raiseFault_ticks (c : BitVec 2) : (raiseFault c s).ticks = s.ticks := rfl
@[simp] theorem raiseFault_cfg (c : BitVec 2) : (raiseFault c s).cfg = s.cfg := rfl

/-! ### setSer -/

@[simp] theorem setSer_state (b : Bool) : (s.setSer b).state = s.state := rfl
@[simp] theorem setSer_idx (b : Bool) : (s.setSer b).idx = s.idx := rfl
@[simp] theorem setSer_timer (b : Bool) : (s.setSer b).timer = s.timer := rfl
@[simp] theorem setSer_op (b : Bool) : (s.setSer b).op = s.op := rfl
@[simp] theorem setSer_addr (b : Bool) : (s.setSer b).addr = s.addr := rfl
@[simp] theorem setSer_oe (b : Bool) : (s.setSer b).oe = s.oe := rfl
@[simp] theorem setSer_data (b : Bool) : (s.setSer b).data = s.data := rfl
@[simp] theorem setSer_frame (b : Bool) : (s.setSer b).frame = s.frame := rfl
@[simp] theorem setSer_rdata (b : Bool) : (s.setSer b).rdata = s.rdata := rfl
@[simp] theorem setSer_rdataValid (b : Bool) : (s.setSer b).rdataValid = s.rdataValid := rfl
@[simp] theorem setSer_faultCode (b : Bool) : (s.setSer b).faultCode = s.faultCode := rfl
@[simp] theorem setSer_sr (b : Bool) : (s.setSer b).sr = s.sr := rfl
@[simp] theorem setSer_out (b : Bool) : (s.setSer b).out = s.out := rfl
@[simp] theorem setSer_ddir (b : Bool) : (s.setSer b).ddir = s.ddir := rfl
@[simp] theorem setSer_dout (b : Bool) : (s.setSer b).dout = s.dout := rfl
@[simp] theorem setSer_acc (b : Bool) : (s.setSer b).acc = s.acc := rfl
@[simp] theorem setSer_ser (b : Bool) : (s.setSer b).ser = b := rfl
@[simp] theorem setSer_srclk (b : Bool) : (s.setSer b).srclk = s.srclk := rfl
@[simp] theorem setSer_rclk (b : Bool) : (s.setSer b).rclk = s.rclk := rfl
@[simp] theorem setSer_weN (b : Bool) : (s.setSer b).weN = s.weN := rfl
@[simp] theorem setSer_mem (b : Bool) : (s.setSer b).mem = s.mem := rfl
@[simp] theorem setSer_pending (b : Bool) : (s.setSer b).pending = s.pending := rfl
@[simp] theorem setSer_deviceStuck (b : Bool) : (s.setSer b).deviceStuck = s.deviceStuck := rfl
@[simp] theorem setSer_trace (b : Bool) : (s.setSer b).trace = s.trace := rfl
@[simp] theorem setSer_inputs (b : Bool) : (s.setSer b).inputs = s.inputs := rfl
@[simp] theorem setSer_ticks (b : Bool) : (s.setSer b).ticks = s.ticks := rfl
@[simp] theorem setSer_cfg (b : Bool) : (s.setSer b).cfg = s.cfg := rfl

/-! ### srclkRise -/

@[simp] theorem srclkRise_state : s.srclkRise.state = s.state := rfl
@[simp] theorem srclkRise_idx : s.srclkRise.idx = s.idx := rfl
@[simp] theorem srclkRise_timer : s.srclkRise.timer = s.timer := rfl
@[simp] theorem srclkRise_op : s.srclkRise.op = s.op := rfl
@[simp] theorem srclkRise_addr : s.srclkRise.addr = s.addr := rfl
@[simp] theorem srclkRise_oe : s.srclkRise.oe = s.oe := rfl
@[simp] theorem srclkRise_data : s.srclkRise.data = s.data := rfl
@[simp] theorem srclkRise_frame : s.srclkRise.frame = s.frame := rfl
@[simp] theorem srclkRise_rdata : s.srclkRise.rdata = s.rdata := rfl
@[simp] theorem srclkRise_rdataValid : s.srclkRise.rdataValid = s.rdataValid := rfl
@[simp] theorem srclkRise_faultCode : s.srclkRise.faultCode = s.faultCode := rfl
@[simp] theorem srclkRise_sr : s.srclkRise.sr = shiftIn16 s.sr s.ser := rfl
@[simp] theorem srclkRise_out : s.srclkRise.out = s.out := rfl
@[simp] theorem srclkRise_ddir : s.srclkRise.ddir = s.ddir := rfl
@[simp] theorem srclkRise_dout : s.srclkRise.dout = s.dout := rfl
@[simp] theorem srclkRise_acc : s.srclkRise.acc = s.acc := rfl
@[simp] theorem srclkRise_ser : s.srclkRise.ser = s.ser := rfl
@[simp] theorem srclkRise_srclk : s.srclkRise.srclk = true := rfl
@[simp] theorem srclkRise_rclk : s.srclkRise.rclk = s.rclk := rfl
@[simp] theorem srclkRise_weN : s.srclkRise.weN = s.weN := rfl
@[simp] theorem srclkRise_mem : s.srclkRise.mem = s.mem := rfl
@[simp] theorem srclkRise_pending : s.srclkRise.pending = s.pending := rfl
@[simp] theorem srclkRise_deviceStuck : s.srclkRise.deviceStuck = s.deviceStuck := rfl
@[simp] theorem srclkRise_trace : s.srclkRise.trace = s.trace := rfl
@[simp] theorem srclkRise_inputs : s.srclkRise.inputs = s.inputs := rfl
@[simp] theorem srclkRise_ticks : s.srclkRise.ticks = s.ticks := rfl
@[simp] theorem srclkRise_cfg : s.srclkRise.cfg = s.cfg := rfl

/-! ### srclkFall -/

@[simp] theorem srclkFall_state : s.srclkFall.state = s.state := rfl
@[simp] theorem srclkFall_idx : s.srclkFall.idx = s.idx := rfl
@[simp] theorem srclkFall_timer : s.srclkFall.timer = s.timer := rfl
@[simp] theorem srclkFall_op : s.srclkFall.op = s.op := rfl
@[simp] theorem srclkFall_addr : s.srclkFall.addr = s.addr := rfl
@[simp] theorem srclkFall_oe : s.srclkFall.oe = s.oe := rfl
@[simp] theorem srclkFall_data : s.srclkFall.data = s.data := rfl
@[simp] theorem srclkFall_frame : s.srclkFall.frame = s.frame := rfl
@[simp] theorem srclkFall_rdata : s.srclkFall.rdata = s.rdata := rfl
@[simp] theorem srclkFall_rdataValid : s.srclkFall.rdataValid = s.rdataValid := rfl
@[simp] theorem srclkFall_faultCode : s.srclkFall.faultCode = s.faultCode := rfl
@[simp] theorem srclkFall_sr : s.srclkFall.sr = s.sr := rfl
@[simp] theorem srclkFall_out : s.srclkFall.out = s.out := rfl
@[simp] theorem srclkFall_ddir : s.srclkFall.ddir = s.ddir := rfl
@[simp] theorem srclkFall_dout : s.srclkFall.dout = s.dout := rfl
@[simp] theorem srclkFall_acc : s.srclkFall.acc = s.acc := rfl
@[simp] theorem srclkFall_ser : s.srclkFall.ser = s.ser := rfl
@[simp] theorem srclkFall_srclk : s.srclkFall.srclk = false := rfl
@[simp] theorem srclkFall_rclk : s.srclkFall.rclk = s.rclk := rfl
@[simp] theorem srclkFall_weN : s.srclkFall.weN = s.weN := rfl
@[simp] theorem srclkFall_mem : s.srclkFall.mem = s.mem := rfl
@[simp] theorem srclkFall_pending : s.srclkFall.pending = s.pending := rfl
@[simp] theorem srclkFall_deviceStuck : s.srclkFall.deviceStuck = s.deviceStuck := rfl
@[simp] theorem srclkFall_trace : s.srclkFall.trace = s.trace := rfl
@[simp] theorem srclkFall_inputs : s.srclkFall.inputs = s.inputs := rfl
@[simp] theorem srclkFall_ticks : s.srclkFall.ticks = s.ticks := rfl
@[simp] theorem srclkFall_cfg : s.srclkFall.cfg = s.cfg := rfl

/-! ### rclkRise -/

@[simp] theorem rclkRise_state : s.rclkRise.state = s.state := rfl
@[simp] theorem rclkRise_idx : s.rclkRise.idx = s.idx := rfl
@[simp] theorem rclkRise_timer : s.rclkRise.timer = s.timer := rfl
@[simp] theorem rclkRise_op : s.rclkRise.op = s.op := rfl
@[simp] theorem rclkRise_addr : s.rclkRise.addr = s.addr := rfl
@[simp] theorem rclkRise_oe : s.rclkRise.oe = s.oe := rfl
@[simp] theorem rclkRise_data : s.rclkRise.data = s.data := rfl
@[simp] theorem rclkRise_frame : s.rclkRise.frame = s.frame := rfl
@[simp] theorem rclkRise_rdata : s.rclkRise.rdata = s.rdata := rfl
@[simp] theorem rclkRise_rdataValid : s.rclkRise.rdataValid = s.rdataValid := rfl
@[simp] theorem rclkRise_faultCode : s.rclkRise.faultCode = s.faultCode := rfl
@[simp] theorem rclkRise_sr : s.rclkRise.sr = s.sr := rfl
@[simp] theorem rclkRise_out : s.rclkRise.out = s.sr := rfl
@[simp] theorem rclkRise_ddir : s.rclkRise.ddir = s.ddir := rfl
@[simp] theorem rclkRise_dout : s.rclkRise.dout = s.dout := rfl
@[simp] theorem rclkRise_acc : s.rclkRise.acc = s.acc := rfl
@[simp] theorem rclkRise_ser : s.rclkRise.ser = s.ser := rfl
@[simp] theorem rclkRise_srclk : s.rclkRise.srclk = s.srclk := rfl
@[simp] theorem rclkRise_rclk : s.rclkRise.rclk = true := rfl
@[simp] theorem rclkRise_weN : s.rclkRise.weN = s.weN := rfl
@[simp] theorem rclkRise_mem : s.rclkRise.mem = s.mem := rfl
@[simp] theorem rclkRise_pending : s.rclkRise.pending = s.pending := rfl
@[simp] theorem rclkRise_deviceStuck : s.rclkRise.deviceStuck = s.deviceStuck := rfl
@[simp] theorem rclkRise_trace : s.rclkRise.trace = s.trace := rfl
@[simp] theorem rclkRise_inputs : s.rclkRise.inputs = s.inputs := rfl
@[simp] theorem rclkRise_ticks : s.rclkRise.ticks = s.ticks := rfl
@[simp] theorem rclkRise_cfg : s.rclkRise.cfg = s.cfg := rfl

/-! ### rclkFall -/

@[simp] theorem rclkFall_state : s.rclkFall.state = s.state := rfl
@[simp] theorem rclkFall_idx : s.rclkFall.idx = s.idx := rfl
@[simp] theorem rclkFall_timer : s.rclkFall.timer = s.timer := rfl
@[simp] theorem rclkFall_op : s.rclkFall.op = s.op := rfl
@[simp] theorem rclkFall_addr : s.rclkFall.addr = s.addr := rfl
@[simp] theorem rclkFall_oe : s.rclkFall.oe = s.oe := rfl
@[simp] theorem rclkFall_data : s.rclkFall.data = s.data := rfl
@[simp] theorem rclkFall_frame : s.rclkFall.frame = s.frame := rfl
@[simp] theorem rclkFall_rdata : s.rclkFall.rdata = s.rdata := rfl
@[simp] theorem rclkFall_rdataValid : s.rclkFall.rdataValid = s.rdataValid := rfl
@[simp] theorem rclkFall_faultCode : s.rclkFall.faultCode = s.faultCode := rfl
@[simp] theorem rclkFall_sr : s.rclkFall.sr = s.sr := rfl
@[simp] theorem rclkFall_out : s.rclkFall.out = s.out := rfl
@[simp] theorem rclkFall_ddir : s.rclkFall.ddir = s.ddir := rfl
@[simp] theorem rclkFall_dout : s.rclkFall.dout = s.dout := rfl
@[simp] theorem rclkFall_acc : s.rclkFall.acc = s.acc := rfl
@[simp] theorem rclkFall_ser : s.rclkFall.ser = s.ser := rfl
@[simp] theorem rclkFall_srclk : s.rclkFall.srclk = s.srclk := rfl
@[simp] theorem rclkFall_rclk : s.rclkFall.rclk = false := rfl
@[simp] theorem rclkFall_weN : s.rclkFall.weN = s.weN := rfl
@[simp] theorem rclkFall_mem : s.rclkFall.mem = s.mem := rfl
@[simp] theorem rclkFall_pending : s.rclkFall.pending = s.pending := rfl
@[simp] theorem rclkFall_deviceStuck : s.rclkFall.deviceStuck = s.deviceStuck := rfl
@[simp] theorem rclkFall_trace : s.rclkFall.trace = s.trace := rfl
@[simp] theorem rclkFall_inputs : s.rclkFall.inputs = s.inputs := rfl
@[simp] theorem rclkFall_ticks : s.rclkFall.ticks = s.ticks := rfl
@[simp] theorem rclkFall_cfg : s.rclkFall.cfg = s.cfg := rfl

/-! ### captureFields -/

@[simp] theorem captureFields_state (o : BitVec 2) (a : Half) (e : Bool) (v : Byte) : (captureFields o a e v s).state = s.state := rfl
@[simp] theorem captureFields_idx (o : BitVec 2) (a : Half) (e : Bool) (v : Byte) : (captureFields o a e v s).idx = s.idx := rfl
@[simp] theorem captureFields_timer (o : BitVec 2) (a : Half) (e : Bool) (v : Byte) : (captureFields o a e v s).timer = s.timer := rfl
@[simp] theorem captureFields_op (o : BitVec 2) (a : Half) (e : Bool) (v : Byte) : (captureFields o a e v s).op = o := rfl
@[simp] theorem captureFields_addr (o : BitVec 2) (a : Half) (e : Bool) (v : Byte) : (captureFields o a e v s).addr = a := rfl
@[simp] theorem captureFields_oe (o : BitVec 2) (a : Half) (e : Bool) (v : Byte) : (captureFields o a e v s).oe = e := rfl
@[simp] theorem captureFields_data (o : BitVec 2) (a : Half) (e : Bool) (v : Byte) : (captureFields o a e v s).data = v := rfl
@[simp] theorem captureFields_frame (o : BitVec 2) (a : Half) (e : Bool) (v : Byte) : (captureFields o a e v s).frame = s.frame := rfl
@[simp] theorem captureFields_rdata (o : BitVec 2) (a : Half) (e : Bool) (v : Byte) : (captureFields o a e v s).rdata = s.rdata := rfl
@[simp] theorem captureFields_rdataValid (o : BitVec 2) (a : Half) (e : Bool) (v : Byte) : (captureFields o a e v s).rdataValid = s.rdataValid := rfl
@[simp] theorem captureFields_faultCode (o : BitVec 2) (a : Half) (e : Bool) (v : Byte) : (captureFields o a e v s).faultCode = s.faultCode := rfl
@[simp] theorem captureFields_sr (o : BitVec 2) (a : Half) (e : Bool) (v : Byte) : (captureFields o a e v s).sr = s.sr := rfl
@[simp] theorem captureFields_out (o : BitVec 2) (a : Half) (e : Bool) (v : Byte) : (captureFields o a e v s).out = s.out := rfl
@[simp] theorem captureFields_ddir (o : BitVec 2) (a : Half) (e : Bool) (v : Byte) : (captureFields o a e v s).ddir = s.ddir := rfl
@[simp] theorem captureFields_dout (o : BitVec 2) (a : Half) (e : Bool) (v : Byte) : (captureFields o a e v s).dout = s.dout := rfl
@[simp] theorem captureFields_acc (o : BitVec 2) (a : Half) (e : Bool) (v : Byte) : (captureFields o a e v s).acc = s.acc := rfl
@[simp] theorem captureFields_ser (o : BitVec 2) (a : Half) (e : Bool) (v : Byte) : (captureFields o a e v s).ser = s.ser := rfl
@[simp] theorem captureFields_srclk (o : BitVec 2) (a : Half) (e : Bool) (v : Byte) : (captureFields o a e v s).srclk = s.srclk := rfl
@[simp] theorem captureFields_rclk (o : BitVec 2) (a : Half) (e : Bool) (v : Byte) : (captureFields o a e v s).rclk = s.rclk := rfl
@[simp] theorem captureFields_weN (o : BitVec 2) (a : Half) (e : Bool) (v : Byte) : (captureFields o a e v s).weN = s.weN := rfl
@[simp] theorem captureFields_mem (o : BitVec 2) (a : Half) (e : Bool) (v : Byte) : (captureFields o a e v s).mem = s.mem := rfl
@[simp] theorem captureFields_pending (o : BitVec 2) (a : Half) (e : Bool) (v : Byte) : (captureFields o a e v s).pending = s.pending := rfl
@[simp] theorem captureFields_deviceStuck (o : BitVec 2) (a : Half) (e : Bool) (v : Byte) : (captureFields o a e v s).deviceStuck = s.deviceStuck := rfl
@[simp] theorem captureFields_trace (o : BitVec 2) (a : Half) (e : Bool) (v : Byte) : (captureFields o a e v s).trace = s.trace := rfl
@[simp] theorem captureFields_inputs (o : BitVec 2) (a : Half) (e : Bool) (v : Byte) : (captureFields o a e v s).inputs = s.inputs := rfl
@[simp] theorem captureFields_ticks (o : BitVec 2) (a : Half) (e : Bool) (v : Byte) : (captureFields o a e v s).ticks = s.ticks := rfl
@[simp] theorem captureFields_cfg (o : BitVec 2) (a : Half) (e : Bool) (v : Byte) : (captureFields o a e v s).cfg = s.cfg := rfl

end Sys2Proof.Machine
end

