-- ==== Sys2Proof/Laws/Ops.lean ====
section
/-! SUPPORT. Laws of the shared operations: what each can do, said once, and the fields each leaves alone. -/

namespace Sys2Proof.Machine

variable (s : State)

/-! ### Fields left alone -/

@[simp] theorem capture_state (v : Byte) : (s.capture v).state = s.state := by unfold State.capture; split <;> [rfl; (split <;> rfl)]
@[simp] theorem capture_idx (v : Byte) : (s.capture v).idx = s.idx := by unfold State.capture; split <;> [rfl; (split <;> rfl)]
@[simp] theorem capture_timer (v : Byte) : (s.capture v).timer = s.timer := by unfold State.capture; split <;> [rfl; (split <;> rfl)]
@[simp] theorem capture_op (v : Byte) : (s.capture v).op = s.op := by unfold State.capture; split <;> [rfl; (split <;> rfl)]
@[simp] theorem capture_addr (v : Byte) : (s.capture v).addr = s.addr := by unfold State.capture; split <;> [rfl; (split <;> rfl)]
@[simp] theorem capture_oe (v : Byte) : (s.capture v).oe = s.oe := by unfold State.capture; split <;> [rfl; (split <;> rfl)]
@[simp] theorem capture_data (v : Byte) : (s.capture v).data = s.data := by unfold State.capture; split <;> [rfl; (split <;> rfl)]
@[simp] theorem capture_frame (v : Byte) : (s.capture v).frame = s.frame := by unfold State.capture; split <;> [rfl; (split <;> rfl)]
@[simp] theorem capture_rdata (v : Byte) : (s.capture v).rdata = s.rdata := by unfold State.capture; split <;> [rfl; (split <;> rfl)]
@[simp] theorem capture_rdataValid (v : Byte) : (s.capture v).rdataValid = s.rdataValid := by unfold State.capture; split <;> [rfl; (split <;> rfl)]
@[simp] theorem capture_faultCode (v : Byte) : (s.capture v).faultCode = s.faultCode := by unfold State.capture; split <;> [rfl; (split <;> rfl)]
@[simp] theorem capture_sr (v : Byte) : (s.capture v).sr = s.sr := by unfold State.capture; split <;> [rfl; (split <;> rfl)]
@[simp] theorem capture_out (v : Byte) : (s.capture v).out = s.out := by unfold State.capture; split <;> [rfl; (split <;> rfl)]
@[simp] theorem capture_ddir (v : Byte) : (s.capture v).ddir = s.ddir := by unfold State.capture; split <;> [rfl; (split <;> rfl)]
@[simp] theorem capture_dout (v : Byte) : (s.capture v).dout = s.dout := by unfold State.capture; split <;> [rfl; (split <;> rfl)]
@[simp] theorem capture_acc (v : Byte) : (s.capture v).acc = s.acc := by unfold State.capture; split <;> [rfl; (split <;> rfl)]
@[simp] theorem capture_ser (v : Byte) : (s.capture v).ser = s.ser := by unfold State.capture; split <;> [rfl; (split <;> rfl)]
@[simp] theorem capture_srclk (v : Byte) : (s.capture v).srclk = s.srclk := by unfold State.capture; split <;> [rfl; (split <;> rfl)]
@[simp] theorem capture_rclk (v : Byte) : (s.capture v).rclk = s.rclk := by unfold State.capture; split <;> [rfl; (split <;> rfl)]
@[simp] theorem capture_weN (v : Byte) : (s.capture v).weN = s.weN := by unfold State.capture; split <;> [rfl; (split <;> rfl)]
@[simp] theorem capture_mem (v : Byte) : (s.capture v).mem = s.mem := by unfold State.capture; split <;> [rfl; (split <;> rfl)]
@[simp] theorem capture_trace (v : Byte) : (s.capture v).trace = s.trace := by unfold State.capture; split <;> [rfl; (split <;> rfl)]
@[simp] theorem capture_inputs (v : Byte) : (s.capture v).inputs = s.inputs := by unfold State.capture; split <;> [rfl; (split <;> rfl)]
@[simp] theorem capture_ticks (v : Byte) : (s.capture v).ticks = s.ticks := by unfold State.capture; split <;> [rfl; (split <;> rfl)]
@[simp] theorem capture_cfg (v : Byte) : (s.capture v).cfg = s.cfg := by unfold State.capture; split <;> [rfl; (split <;> rfl)]

@[simp] theorem memWrite_state : s.memWrite.state = s.state := by unfold State.memWrite State.captureReleased; split <;> simp
@[simp] theorem memWrite_idx : s.memWrite.idx = s.idx := by unfold State.memWrite State.captureReleased; split <;> simp
@[simp] theorem memWrite_timer : s.memWrite.timer = s.timer := by unfold State.memWrite State.captureReleased; split <;> simp
@[simp] theorem memWrite_op : s.memWrite.op = s.op := by unfold State.memWrite State.captureReleased; split <;> simp
@[simp] theorem memWrite_addr : s.memWrite.addr = s.addr := by unfold State.memWrite State.captureReleased; split <;> simp
@[simp] theorem memWrite_oe : s.memWrite.oe = s.oe := by unfold State.memWrite State.captureReleased; split <;> simp
@[simp] theorem memWrite_data : s.memWrite.data = s.data := by unfold State.memWrite State.captureReleased; split <;> simp
@[simp] theorem memWrite_frame : s.memWrite.frame = s.frame := by unfold State.memWrite State.captureReleased; split <;> simp
@[simp] theorem memWrite_rdata : s.memWrite.rdata = s.rdata := by unfold State.memWrite State.captureReleased; split <;> simp
@[simp] theorem memWrite_rdataValid : s.memWrite.rdataValid = s.rdataValid := by unfold State.memWrite State.captureReleased; split <;> simp
@[simp] theorem memWrite_faultCode : s.memWrite.faultCode = s.faultCode := by unfold State.memWrite State.captureReleased; split <;> simp
@[simp] theorem memWrite_sr : s.memWrite.sr = s.sr := by unfold State.memWrite State.captureReleased; split <;> simp
@[simp] theorem memWrite_out : s.memWrite.out = s.out := by unfold State.memWrite State.captureReleased; split <;> simp
@[simp] theorem memWrite_ddir : s.memWrite.ddir = s.ddir := by unfold State.memWrite State.captureReleased; split <;> simp
@[simp] theorem memWrite_dout : s.memWrite.dout = s.dout := by unfold State.memWrite State.captureReleased; split <;> simp
@[simp] theorem memWrite_acc : s.memWrite.acc = s.acc := by unfold State.memWrite State.captureReleased; split <;> simp
@[simp] theorem memWrite_ser : s.memWrite.ser = s.ser := by unfold State.memWrite State.captureReleased; split <;> simp
@[simp] theorem memWrite_srclk : s.memWrite.srclk = s.srclk := by unfold State.memWrite State.captureReleased; split <;> simp
@[simp] theorem memWrite_rclk : s.memWrite.rclk = s.rclk := by unfold State.memWrite State.captureReleased; split <;> simp
@[simp] theorem memWrite_weN : s.memWrite.weN = s.weN := by unfold State.memWrite State.captureReleased; split <;> simp
@[simp] theorem memWrite_mem : s.memWrite.mem = s.mem := by unfold State.memWrite State.captureReleased; split <;> simp
@[simp] theorem memWrite_trace : s.memWrite.trace = s.trace := by unfold State.memWrite State.captureReleased; split <;> simp
@[simp] theorem memWrite_inputs : s.memWrite.inputs = s.inputs := by unfold State.memWrite State.captureReleased; split <;> simp
@[simp] theorem memWrite_ticks : s.memWrite.ticks = s.ticks := by unfold State.memWrite State.captureReleased; split <;> simp
@[simp] theorem memWrite_cfg : s.memWrite.cfg = s.cfg := by unfold State.memWrite State.captureReleased; split <;> simp

@[simp] theorem settle_state (p : Option PendingWrite) : (s.settle p).state = s.state := by unfold State.settle State.commit; split <;> [rfl; (split <;> [rfl; (split <;> rfl)])]
@[simp] theorem settle_idx (p : Option PendingWrite) : (s.settle p).idx = s.idx := by unfold State.settle State.commit; split <;> [rfl; (split <;> [rfl; (split <;> rfl)])]
@[simp] theorem settle_timer (p : Option PendingWrite) : (s.settle p).timer = s.timer := by unfold State.settle State.commit; split <;> [rfl; (split <;> [rfl; (split <;> rfl)])]
@[simp] theorem settle_op (p : Option PendingWrite) : (s.settle p).op = s.op := by unfold State.settle State.commit; split <;> [rfl; (split <;> [rfl; (split <;> rfl)])]
@[simp] theorem settle_addr (p : Option PendingWrite) : (s.settle p).addr = s.addr := by unfold State.settle State.commit; split <;> [rfl; (split <;> [rfl; (split <;> rfl)])]
@[simp] theorem settle_oe (p : Option PendingWrite) : (s.settle p).oe = s.oe := by unfold State.settle State.commit; split <;> [rfl; (split <;> [rfl; (split <;> rfl)])]
@[simp] theorem settle_data (p : Option PendingWrite) : (s.settle p).data = s.data := by unfold State.settle State.commit; split <;> [rfl; (split <;> [rfl; (split <;> rfl)])]
@[simp] theorem settle_frame (p : Option PendingWrite) : (s.settle p).frame = s.frame := by unfold State.settle State.commit; split <;> [rfl; (split <;> [rfl; (split <;> rfl)])]
@[simp] theorem settle_rdata (p : Option PendingWrite) : (s.settle p).rdata = s.rdata := by unfold State.settle State.commit; split <;> [rfl; (split <;> [rfl; (split <;> rfl)])]
@[simp] theorem settle_rdataValid (p : Option PendingWrite) : (s.settle p).rdataValid = s.rdataValid := by unfold State.settle State.commit; split <;> [rfl; (split <;> [rfl; (split <;> rfl)])]
@[simp] theorem settle_faultCode (p : Option PendingWrite) : (s.settle p).faultCode = s.faultCode := by unfold State.settle State.commit; split <;> [rfl; (split <;> [rfl; (split <;> rfl)])]
@[simp] theorem settle_sr (p : Option PendingWrite) : (s.settle p).sr = s.sr := by unfold State.settle State.commit; split <;> [rfl; (split <;> [rfl; (split <;> rfl)])]
@[simp] theorem settle_out (p : Option PendingWrite) : (s.settle p).out = s.out := by unfold State.settle State.commit; split <;> [rfl; (split <;> [rfl; (split <;> rfl)])]
@[simp] theorem settle_ddir (p : Option PendingWrite) : (s.settle p).ddir = s.ddir := by unfold State.settle State.commit; split <;> [rfl; (split <;> [rfl; (split <;> rfl)])]
@[simp] theorem settle_dout (p : Option PendingWrite) : (s.settle p).dout = s.dout := by unfold State.settle State.commit; split <;> [rfl; (split <;> [rfl; (split <;> rfl)])]
@[simp] theorem settle_acc (p : Option PendingWrite) : (s.settle p).acc = s.acc := by unfold State.settle State.commit; split <;> [rfl; (split <;> [rfl; (split <;> rfl)])]
@[simp] theorem settle_ser (p : Option PendingWrite) : (s.settle p).ser = s.ser := by unfold State.settle State.commit; split <;> [rfl; (split <;> [rfl; (split <;> rfl)])]
@[simp] theorem settle_srclk (p : Option PendingWrite) : (s.settle p).srclk = s.srclk := by unfold State.settle State.commit; split <;> [rfl; (split <;> [rfl; (split <;> rfl)])]
@[simp] theorem settle_rclk (p : Option PendingWrite) : (s.settle p).rclk = s.rclk := by unfold State.settle State.commit; split <;> [rfl; (split <;> [rfl; (split <;> rfl)])]
@[simp] theorem settle_weN (p : Option PendingWrite) : (s.settle p).weN = s.weN := by unfold State.settle State.commit; split <;> [rfl; (split <;> [rfl; (split <;> rfl)])]
@[simp] theorem settle_deviceStuck (p : Option PendingWrite) : (s.settle p).deviceStuck = s.deviceStuck := by unfold State.settle State.commit; split <;> [rfl; (split <;> [rfl; (split <;> rfl)])]
@[simp] theorem settle_trace (p : Option PendingWrite) : (s.settle p).trace = s.trace := by unfold State.settle State.commit; split <;> [rfl; (split <;> [rfl; (split <;> rfl)])]
@[simp] theorem settle_inputs (p : Option PendingWrite) : (s.settle p).inputs = s.inputs := by unfold State.settle State.commit; split <;> [rfl; (split <;> [rfl; (split <;> rfl)])]
@[simp] theorem settle_ticks (p : Option PendingWrite) : (s.settle p).ticks = s.ticks := by unfold State.settle State.commit; split <;> [rfl; (split <;> [rfl; (split <;> rfl)])]
@[simp] theorem settle_cfg (p : Option PendingWrite) : (s.settle p).cfg = s.cfg := by unfold State.settle State.commit; split <;> [rfl; (split <;> [rfl; (split <;> rfl)])]

@[simp] theorem noteContention_state : s.noteContention.state = s.state := by unfold State.noteContention; split <;> rfl
@[simp] theorem noteContention_idx : s.noteContention.idx = s.idx := by unfold State.noteContention; split <;> rfl
@[simp] theorem noteContention_timer : s.noteContention.timer = s.timer := by unfold State.noteContention; split <;> rfl
@[simp] theorem noteContention_op : s.noteContention.op = s.op := by unfold State.noteContention; split <;> rfl
@[simp] theorem noteContention_addr : s.noteContention.addr = s.addr := by unfold State.noteContention; split <;> rfl
@[simp] theorem noteContention_oe : s.noteContention.oe = s.oe := by unfold State.noteContention; split <;> rfl
@[simp] theorem noteContention_data : s.noteContention.data = s.data := by unfold State.noteContention; split <;> rfl
@[simp] theorem noteContention_frame : s.noteContention.frame = s.frame := by unfold State.noteContention; split <;> rfl
@[simp] theorem noteContention_rdata : s.noteContention.rdata = s.rdata := by unfold State.noteContention; split <;> rfl
@[simp] theorem noteContention_rdataValid : s.noteContention.rdataValid = s.rdataValid := by unfold State.noteContention; split <;> rfl
@[simp] theorem noteContention_faultCode : s.noteContention.faultCode = s.faultCode := by unfold State.noteContention; split <;> rfl
@[simp] theorem noteContention_sr : s.noteContention.sr = s.sr := by unfold State.noteContention; split <;> rfl
@[simp] theorem noteContention_out : s.noteContention.out = s.out := by unfold State.noteContention; split <;> rfl
@[simp] theorem noteContention_ddir : s.noteContention.ddir = s.ddir := by unfold State.noteContention; split <;> rfl
@[simp] theorem noteContention_dout : s.noteContention.dout = s.dout := by unfold State.noteContention; split <;> rfl
@[simp] theorem noteContention_acc : s.noteContention.acc = s.acc := by unfold State.noteContention; split <;> rfl
@[simp] theorem noteContention_ser : s.noteContention.ser = s.ser := by unfold State.noteContention; split <;> rfl
@[simp] theorem noteContention_srclk : s.noteContention.srclk = s.srclk := by unfold State.noteContention; split <;> rfl
@[simp] theorem noteContention_rclk : s.noteContention.rclk = s.rclk := by unfold State.noteContention; split <;> rfl
@[simp] theorem noteContention_weN : s.noteContention.weN = s.weN := by unfold State.noteContention; split <;> rfl
@[simp] theorem noteContention_mem : s.noteContention.mem = s.mem := by unfold State.noteContention; split <;> rfl
@[simp] theorem noteContention_pending : s.noteContention.pending = s.pending := by unfold State.noteContention; split <;> rfl
@[simp] theorem noteContention_deviceStuck : s.noteContention.deviceStuck = s.deviceStuck := by unfold State.noteContention; split <;> rfl
@[simp] theorem noteContention_inputs : s.noteContention.inputs = s.inputs := by unfold State.noteContention; split <;> rfl
@[simp] theorem noteContention_ticks : s.noteContention.ticks = s.ticks := by unfold State.noteContention; split <;> rfl
@[simp] theorem noteContention_cfg : s.noteContention.cfg = s.cfg := by unfold State.noteContention; split <;> rfl

@[simp] theorem endTick_state (p : Option PendingWrite) : (endTick p s).state = s.state := by simp [endTick]
@[simp] theorem endTick_idx (p : Option PendingWrite) : (endTick p s).idx = s.idx := by simp [endTick]
@[simp] theorem endTick_timer (p : Option PendingWrite) : (endTick p s).timer = s.timer := by simp [endTick]
@[simp] theorem endTick_op (p : Option PendingWrite) : (endTick p s).op = s.op := by simp [endTick]
@[simp] theorem endTick_addr (p : Option PendingWrite) : (endTick p s).addr = s.addr := by simp [endTick]
@[simp] theorem endTick_oe (p : Option PendingWrite) : (endTick p s).oe = s.oe := by simp [endTick]
@[simp] theorem endTick_data (p : Option PendingWrite) : (endTick p s).data = s.data := by simp [endTick]
@[simp] theorem endTick_frame (p : Option PendingWrite) : (endTick p s).frame = s.frame := by simp [endTick]
@[simp] theorem endTick_rdata (p : Option PendingWrite) : (endTick p s).rdata = s.rdata := by simp [endTick]
@[simp] theorem endTick_rdataValid (p : Option PendingWrite) : (endTick p s).rdataValid = s.rdataValid := by simp [endTick]
@[simp] theorem endTick_faultCode (p : Option PendingWrite) : (endTick p s).faultCode = s.faultCode := by simp [endTick]
@[simp] theorem endTick_sr (p : Option PendingWrite) : (endTick p s).sr = s.sr := by simp [endTick]
@[simp] theorem endTick_out (p : Option PendingWrite) : (endTick p s).out = s.out := by simp [endTick]
@[simp] theorem endTick_ddir (p : Option PendingWrite) : (endTick p s).ddir = s.ddir := by simp [endTick]
@[simp] theorem endTick_dout (p : Option PendingWrite) : (endTick p s).dout = s.dout := by simp [endTick]
@[simp] theorem endTick_acc (p : Option PendingWrite) : (endTick p s).acc = s.acc := by simp [endTick]
@[simp] theorem endTick_ser (p : Option PendingWrite) : (endTick p s).ser = s.ser := by simp [endTick]
@[simp] theorem endTick_srclk (p : Option PendingWrite) : (endTick p s).srclk = s.srclk := by simp [endTick]
@[simp] theorem endTick_rclk (p : Option PendingWrite) : (endTick p s).rclk = s.rclk := by simp [endTick]
@[simp] theorem endTick_weN (p : Option PendingWrite) : (endTick p s).weN = s.weN := by simp [endTick]
@[simp] theorem endTick_deviceStuck (p : Option PendingWrite) : (endTick p s).deviceStuck = s.deviceStuck := by simp [endTick]
@[simp] theorem endTick_inputs (p : Option PendingWrite) : (endTick p s).inputs = s.inputs := by simp [endTick]
@[simp] theorem endTick_cfg (p : Option PendingWrite) : (endTick p s).cfg = s.cfg := by simp [endTick]


@[simp] theorem endTick_ticks (p : Option PendingWrite) : (endTick p s).ticks = s.ticks + 1 := by
  simp [endTick]

/-! ### What each can do -/

/-- A WE_n rising edge: nothing at a stuck device; stuck over a pending write; else the byte is pending
(R56, R57). -/
theorem capture_cases (v : Byte) :
    (s.deviceStuck = true ∧ s.capture v = s) ∨
    (s.deviceStuck = false ∧ s.pending ≠ none ∧ s.capture v = { s with deviceStuck := true }) ∨
    (s.deviceStuck = false ∧ s.pending = none ∧
      s.capture v = { s with pending := some ⟨s.devAddr, v, devSettleNs⟩ }) := by
  unfold State.capture
  cases hd : s.deviceStuck <;> cases hp : s.pending <;> simp

/-- A WE_n rising edge while the controller alone drives the data lines captures DOUT (R56). -/
theorem memWrite_driven (hd : s.ddir = .output) (ho : s.oeN = true) : s.memWrite = s.capture s.dout := by
  simp [State.memWrite, hd, ho]

/-- A WE_n rising edge while the controller does not drive the data lines alone captures a free byte (R56). -/
theorem memWrite_released (h : ¬ (s.ddir = .output ∧ s.oeN = true)) :
    s.memWrite = s.capture (Config.drawWrite s.ticks) := by
  unfold State.memWrite
  rw [if_neg (by simpa using h)]
  rfl

/-- A WE_n rising edge over a quiet device: the byte is pending (R56). -/
theorem capture_quiet {s : State} (hd : s.deviceStuck = false) (hp : s.pending = none) (v : Byte) :
    s.capture v = { s with pending := some ⟨s.devAddr, v, devSettleNs⟩ } := by
  simp [State.capture, hd, hp]

/-- A WE_n rising edge over a pending write: the device is stuck (R57). -/
theorem capture_over {s : State} (hp : s.pending ≠ none) (v : Byte) :
    s.capture v = { s with deviceStuck := true } := by
  unfold State.capture
  cases hd : s.deviceStuck
  · rw [if_neg (by simp), if_pos (by simpa [Option.isSome_iff_ne_none] using hp)]
  · rw [if_pos rfl, ← hd]

/-- Any WE_n rising edge captures some byte (R56). -/
theorem memWrite_captures : ∃ v, s.memWrite = s.capture v := by
  unfold State.memWrite State.captureReleased
  split
  · exact ⟨_, rfl⟩
  · exact ⟨_, rfl⟩

/-- Without a pending write at the start of the tick there is nothing to count down (R57). -/
@[simp] theorem settle_none : s.settle none = s := rfl

/-- The countdown of a pending write: nothing at a stuck device; the commit at the end of the settle time;
else one tick less to go (R57). -/
theorem settle_some (p : PendingWrite) :
    (s.deviceStuck = true ∧ s.settle (some p) = s) ∨
    (s.deviceStuck = false ∧ p.remaining ≤ s.cfg.pTick ∧ s.settle (some p) = s.commit p) ∨
    (s.deviceStuck = false ∧ s.cfg.pTick < p.remaining ∧
      s.settle (some p) = { s with pending := some { p with remaining := p.remaining - s.cfg.pTick } }) := by
  unfold State.settle
  cases hd : s.deviceStuck
  · by_cases hr : p.remaining ≤ s.cfg.pTick
    · simp [hr]
    · simp [hr]; omega
  · simp

/-- The end of a tick adds at most one Contend event (R120 step 4). -/
theorem endTick_trace (p : Option PendingWrite) :
    (endTick p s).trace = s.trace ++ (if s.contending then [.contend] else []) := by
  simp only [endTick, countTick_trace, State.noteContention]
  have hc : (s.settle p).contending = s.contending := by simp [State.contending, State.oeN]
  rw [hc]
  split <;> simp

@[simp] theorem endTick_mem (p : Option PendingWrite) : (endTick p s).mem = (s.settle p).mem := by
  unfold endTick State.noteContention; split <;> rfl

@[simp] theorem endTick_pending (p : Option PendingWrite) :
    (endTick p s).pending = (s.settle p).pending := by
  unfold endTick State.noteContention; split <;> rfl

/-- The end of a tick in which nothing was pending at the start. -/
theorem endTick_none : endTick none s = s.noteContention.countTick := rfl

/-- The end of a tick in which nothing was pending and nobody contends. -/
theorem endTick_quiet (h : s.contending = false) : endTick none s = s.countTick := by
  simp [endTick_none, State.noteContention, h]

/-- A tick of a timed state: the last one performs the exit action, every other one only counts (R121). -/
theorem timedTick_cases (exit : State → State) :
    (s.timer = 1#32 ∧ timedTick exit s = exit { s with timer := 0#32 }) ∨
    (s.timer ≠ 1#32 ∧ timedTick exit s = { s with timer := s.timer - 1#32 }) := by
  unfold timedTick
  by_cases h : s.timer = 1#32
  · left; simp [h]
  · right; simp [h]

/-- `onNext` answers a next state exactly where the outcome does. -/
theorem onNext_eq_next {o : Host.Outcome State Fault Refusal} {f : State → State} {t : State} :
    onNext o f = .next t ↔ ∃ u, o = .next u ∧ t = f u := by
  cases o <;> simp [onNext, eq_comm]

@[simp] theorem onNext_next (u : State) (f : State → State) : onNext (.next u) f = .next (f u) := rfl

/-- A fault or a refusal passes through the end of a tick. -/
theorem onNext_eq_fault {o : Host.Outcome State Fault Refusal} {f : State → State} {r : Fault} :
    onNext o f = .fault r ↔ o = .fault r := by
  cases o <;> simp [onNext]

end Sys2Proof.Machine
end

