-- ==== Sys2Proof/Laws/PerInstr.lean ====
section
/-! SUPPORT. PerInstr: what is said of every request kind as syntax, one lemma for each. -/

namespace Sys2Proof

/-- The word of a request is legal (R72). -/
def Laws.EncodingIsLegal.Statement (i : Instr) : Prop := legalWord (encode i) = true

theorem Laws.EncodingIsLegal.setaddr (a : Half) (oe : Bool) :
    Laws.EncodingIsLegal.Statement (.setaddr a oe) := by
  obtain ⟨ho, hr, he, _, hv⟩ := fields_packWord 1#2 oe a 0#8
  simp [Laws.EncodingIsLegal.Statement, encode, legalWord, ho, hr, hv]

theorem Laws.EncodingIsLegal.rdb (a : Half) : Laws.EncodingIsLegal.Statement (.rdb a) := by
  obtain ⟨ho, hr, he, _, hv⟩ := fields_packWord 2#2 false a 0#8
  simp [Laws.EncodingIsLegal.Statement, encode, legalWord, ho, hr, he, hv]

theorem Laws.EncodingIsLegal.wrb (a : Half) (v : Byte) :
    Laws.EncodingIsLegal.Statement (.wrb a v) := by
  obtain ⟨ho, hr, he, _, _⟩ := fields_packWord 3#2 false a v
  simp [Laws.EncodingIsLegal.Statement, encode, legalWord, ho, hr, he]

end Sys2Proof
end

