-- ==== Sys2Proof/Laws/Step.lean ====
section
/-! SUPPORT. Laws of the step: what a tick can do, said once as cases over the state it starts in. -/

namespace Sys2Proof.Machine

/-- What the acceptance of a legal request makes of an IDLE state (R125). -/
def acceptOf : Instr → State → State
  | .setaddr a e => acceptSetaddr a e
  | .rdb a => acceptRdb a
  | .wrb a v => acceptWrb a v

/-- In IDLE a presented request is accepted (R125). -/
theorem exec_idle (i : Instr) {s : State} (h : s.state = .idle) : exec i s = .next (acceptOf i s) := by
  cases i <;> simp [exec, execSetaddr, execRdb, execWrb, presented, h, acceptOf]

/-- Fault entry, or the capture of a SET_ADDRESS (R100, R157). -/
theorem acceptSetaddr_cases (a : Half) (e : Bool) (s : State) :
    (wouldContend (frames a e) s = true ∧
      acceptSetaddr a e s = raiseFault busContention (s.emit (.accept 1#2 a e 0#8))) ∨
    (wouldContend (frames a e) s = false ∧
      acceptSetaddr a e s =
        { captureFields 1#2 a e 0#8 (s.emit (.accept 1#2 a e 0#8)) with
          frame := frames a e, idx := 0#4, state := .shift }) := by
  unfold acceptSetaddr
  cases wouldContend (frames a e) s <;> simp

/-- Fault entry, or the capture of a READ_BYTE (R127, R156). -/
theorem acceptRdb_cases (a : Half) (s : State) :
    (s.cfg.maxAddr < a ∧ acceptRdb a s = raiseFault addrRange (s.emit (.accept 2#2 a false 0#8))) ∨
    (a ≤ s.cfg.maxAddr ∧
      acceptRdb a s = { captureFields 2#2 a false 0#8 (s.emit (.accept 2#2 a false 0#8)) with
        rdataValid := false, state := .dirIn }) := by
  unfold acceptRdb
  by_cases h : s.cfg.maxAddr < a
  · exact .inl ⟨h, by simp [h]⟩
  · exact .inr ⟨BitVec.not_lt.mp h, by simp [h]⟩

/-- Fault entry, or the capture of a WRITE_BYTE (R134, R156). -/
theorem acceptWrb_cases (a : Half) (v : Byte) (s : State) :
    (s.cfg.maxAddr < a ∧ acceptWrb a v s = raiseFault addrRange (s.emit (.accept 3#2 a false v))) ∨
    (a ≤ s.cfg.maxAddr ∧
      acceptWrb a v s = { captureFields 3#2 a false v (s.emit (.accept 3#2 a false v)) with
        state := .dirOut }) := by
  unfold acceptWrb
  by_cases h : s.cfg.maxAddr < a
  · exact .inl ⟨h, by simp [h]⟩
  · exact .inr ⟨BitVec.not_lt.mp h, by simp [h]⟩

/-- The tick's action: the state's own, or the acceptance of a legal or of an illegal word in IDLE (R120 step
2, R125, R126). -/
theorem portAction_cases (inp : Input) (s : State) :
    ((s.state ≠ .idle ∨ inp.reqValid = false) ∧ portAction inp s = ownAction s) ∨
    (s.state = .idle ∧ inp.reqValid = true ∧
      ((∃ i, decode inp.reqWord = .ok i ∧ portAction inp s = .next (acceptOf i s)) ∨
       (∃ e, decode inp.reqWord = .error e ∧
          portAction inp s = .next (acceptIllegal inp.reqWord s)))) := by
  unfold portAction
  cases hv : inp.reqValid
  · simp
  · by_cases hs : s.state = .idle
    · right
      refine ⟨hs, rfl, ?_⟩
      cases hd : decode inp.reqWord with
      | ok i => left; simp [exec_idle i hs]
      | error e => right; simp [presentIllegal, presented, hs]
    · left
      refine ⟨.inl hs, ?_⟩
      cases hd : decode inp.reqWord with
      | ok i => cases i <;> simp [exec, execSetaddr, execRdb, execWrb, presented, hs]
      | error e => simp [presentIllegal, presented, hs]

/-- A LATCH tick that goes on, by OP (R104). -/
theorem latchTick_next {s u : State} (h : latchTick s = .next u) :
    (s.op = 1#2 ∧ u = { latchPulse s with state := .done }) ∨
    (s.op = 2#2 ∧ s.cfg.pReadSetupTicks = 0 ∧
      u = { latchPulse s with idx := 0#4, state := .rdSample }) ∨
    (s.op = 2#2 ∧ s.cfg.pReadSetupTicks ≠ 0 ∧
      u = { latchPulse s with timer := BitVec.ofNat 32 s.cfg.pReadSetupTicks, state := .rdWait }) ∨
    (s.op = 3#2 ∧ u = { latchPulse s with idx := 0#4, state := .wrDrive }) := by
  unfold latchTick at h
  split at h
  · next h1 => exact .inl ⟨h1, by simpa using h.symm⟩
  · split at h
    · next h2 =>
      by_cases hr : s.cfg.pReadSetupTicks = 0
      · exact .inr (.inl ⟨h2, hr, by simpa [enterRead, hr, latchPulse] using h.symm⟩)
      · exact .inr (.inr (.inl ⟨h2, hr, by simpa [enterRead, hr, latchPulse] using h.symm⟩))
    · split at h
      · next h3 => exact .inr (.inr (.inr ⟨h3, by simpa using h.symm⟩))
      · cases h

/-- An RD_SAMPLE tick that goes on (R131). -/
theorem rdSampleTick_next {s u : State} (h : rdSampleTick s = .next u) :
    (s.idx = 7#4 ∧ u = finishRead (takeSample s 7)) ∨
    (s.idx.toNat < 7 ∧ u = { takeSample s s.idx.toNat with idx := s.idx + 1#4 }) := by
  unfold rdSampleTick at h
  split at h
  · cases h
  · next h7 =>
    split at h
    · next he => exact .inl ⟨he, by simpa using h.symm⟩
    · next he =>
      refine .inr ⟨?_, by simpa using h.symm⟩
      have : s.idx.toNat ≠ 7 := fun hc => he (BitVec.eq_of_toNat_eq hc)
      omega

/-- A WR_DRIVE tick that goes on (R136). -/
theorem wrDriveTick_next {s u : State} (h : wrDriveTick s = .next u) :
    (s.idx = 7#4 ∧ u = finishDrive (driveBit s 7)) ∨
    (s.idx.toNat < 7 ∧ u = { driveBit s s.idx.toNat with idx := s.idx + 1#4 }) := by
  unfold wrDriveTick at h
  split at h
  · cases h
  · next h7 =>
    split at h
    · next he => exact .inl ⟨he, by simpa using h.symm⟩
    · next he =>
      refine .inr ⟨?_, by simpa using h.symm⟩
      have : s.idx.toNat ≠ 7 := fun hc => he (BitVec.eq_of_toNat_eq hc)
      omega

/-- A stuck tick takes its inputs and is counted, and nothing else changes (R120). -/
@[simp] theorem stuckTick_eq (s : State) : stuckTick s = s.takeInput.countTick := rfl

/-- What a step can do (R8, R120): under a valid configuration, the reset; the same state when the device is
stuck; or the tick's action and the end of the tick. -/
theorem step_eq_next {s t : State} :
    step s = .next t ↔ s.cfg.valid = true ∧
      ((s.input.reset = true ∧ t = resetWholeTick s) ∨
       (s.input.reset = false ∧ s.deviceStuck = true ∧ t = stuckTick s) ∨
       (s.input.reset = false ∧ s.deviceStuck = false ∧
          ∃ u, portAction s.input s.takeInput = .next u ∧ t = endTick s.pending u)) := by
  unfold step tick
  cases hv : s.cfg.valid
  · simp
  · cases hr : s.input.reset
    · cases hd : s.deviceStuck
      · simp [onNext_eq_next]
      · simpa [-stuckTick_eq] using eq_comm
    · simpa using eq_comm

/-- A reset tick (R170). -/
theorem step_reset {s : State} (hv : s.cfg.valid = true) (hr : s.input.reset = true) :
    step s = .next (resetWholeTick s) := step_eq_next.mpr ⟨hv, .inl ⟨hr, rfl⟩⟩

/-- A tick over a stuck device (R120). -/
theorem step_stuck {s : State} (hv : s.cfg.valid = true) (hr : s.input.reset = false)
    (hd : s.deviceStuck = true) : step s = .next (stuckTick s) :=
  step_eq_next.mpr ⟨hv, .inr (.inl ⟨hr, hd, rfl⟩)⟩

/-! ### What the ticks with cases do, forwards -/

theorem shiftTick_on {s : State} (hk : s.idx.toNat < 15) :
    shiftTick s = { shiftBit s (frameBit s.frame s.idx.toNat) with idx := s.idx + 1#4 } := by
  unfold shiftTick
  rw [if_neg (fun h => by rw [h] at hk; simp at hk)]

theorem shiftTick_last {s : State} (hk : s.idx = 15#4) :
    shiftTick s = { shiftBit s (frameBit s.frame 15) with idx := 0#4, state := .latch } := by
  unfold shiftTick
  rw [if_pos hk]

theorem latchTick_set {s : State} (ho : s.op = 1#2) :
    latchTick s = .next { latchPulse s with state := .done } := by
  unfold latchTick
  rw [if_pos ho]

theorem latchTick_read {s : State} (ho : s.op = 2#2) :
    latchTick s = .next (enterRead (latchPulse s)) := by
  unfold latchTick
  rw [if_neg (by rw [ho]; decide), if_pos ho]

theorem latchTick_write {s : State} (ho : s.op = 3#2) :
    latchTick s = .next { latchPulse s with idx := 0#4, state := .wrDrive } := by
  unfold latchTick
  rw [if_neg (by rw [ho]; decide), if_neg (by rw [ho]; decide), if_pos ho]

theorem enterRead_now {s : State} (hz : s.cfg.pReadSetupTicks = 0) :
    enterRead s = { s with idx := 0#4, state := .rdSample } := by
  unfold enterRead
  rw [if_pos hz]

theorem enterRead_wait {s : State} (hz : s.cfg.pReadSetupTicks ≠ 0) :
    enterRead s = { s with timer := BitVec.ofNat 32 s.cfg.pReadSetupTicks, state := .rdWait } := by
  unfold enterRead
  rw [if_neg hz]

theorem rdSampleTick_on {s : State} (hk : s.idx.toNat < 7) :
    rdSampleTick s = .next { takeSample s s.idx.toNat with idx := s.idx + 1#4 } := by
  unfold rdSampleTick
  rw [if_neg (by omega), if_neg (fun h => by rw [h] at hk; simp at hk)]

theorem rdSampleTick_last {s : State} (hk : s.idx = 7#4) :
    rdSampleTick s = .next (finishRead (takeSample s 7)) := by
  unfold rdSampleTick
  rw [if_neg (by rw [hk]; decide), if_pos hk]

theorem wrDriveTick_on {s : State} (hk : s.idx.toNat < 7) :
    wrDriveTick s = .next { driveBit s s.idx.toNat with idx := s.idx + 1#4 } := by
  unfold wrDriveTick
  rw [if_neg (by omega), if_neg (fun h => by rw [h] at hk; simp at hk)]

theorem wrDriveTick_last {s : State} (hk : s.idx = 7#4) :
    wrDriveTick s = .next (finishDrive (driveBit s 7)) := by
  unfold wrDriveTick
  rw [if_neg (by rw [hk]; decide), if_pos hk]

/-- A tick of a state other than IDLE whose own action goes on (R120, R126). -/
theorem step_own {s u : State} (hv : s.cfg.valid = true) (hr : s.input.reset = false)
    (hd : s.deviceStuck = false) (hs : s.state ≠ .idle) (h : ownAction s.takeInput = .next u) :
    step s = .next (endTick s.pending u) := by
  rw [step_eq_next]
  refine ⟨hv, .inr (.inr ⟨hr, hd, u, ?_, rfl⟩)⟩
  rcases portAction_cases s.input s.takeInput with h' | h'
  · rw [h'.2, h]
  · exact absurd h'.1 (by simpa using hs)

/-! ### What a step did, backwards -/

/-- The moves of the sequencer in a tick without RESET whose inputs are `inp`, one case for each thing that a
rule lets it do (R103, R104, R124, R125, R130 to R138, R152, R153). -/
inductive Moves (inp : Input) (s : State) : State → Prop
  | idle (h : s.state = .idle) (hq : inp.reqValid = false) : Moves inp s s
  | fault (h : s.state = .fault) : Moves inp s s
  | illegal (h : s.state = .idle) (hq : inp.reqValid = true) {e : DecodeError}
      (hd : decode inp.reqWord = .error e) : Moves inp s (acceptIllegal inp.reqWord s)
  | contention (h : s.state = .idle) (hq : inp.reqValid = true) {a : Half} {e : Bool}
      (hd : decode inp.reqWord = .ok (.setaddr a e)) (hc : wouldContend (frames a e) s = true) :
      Moves inp s (raiseFault busContention (s.emit (.accept 1#2 a e 0#8)))
  | readRange (h : s.state = .idle) (hq : inp.reqValid = true) {a : Half}
      (hd : decode inp.reqWord = .ok (.rdb a)) (hc : s.cfg.maxAddr < a) :
      Moves inp s (raiseFault addrRange (s.emit (.accept 2#2 a false 0#8)))
  | writeRange (h : s.state = .idle) (hq : inp.reqValid = true) {a : Half} {v : Byte}
      (hd : decode inp.reqWord = .ok (.wrb a v)) (hc : s.cfg.maxAddr < a) :
      Moves inp s (raiseFault addrRange (s.emit (.accept 3#2 a false v)))
  | setaddr (h : s.state = .idle) (hq : inp.reqValid = true) {a : Half} {e : Bool}
      (hd : decode inp.reqWord = .ok (.setaddr a e)) (hc : wouldContend (frames a e) s = false) :
      Moves inp s { captureFields 1#2 a e 0#8 (s.emit (.accept 1#2 a e 0#8)) with
        frame := frames a e, idx := 0#4, state := .shift }
  | rdb (h : s.state = .idle) (hq : inp.reqValid = true) {a : Half}
      (hd : decode inp.reqWord = .ok (.rdb a)) (hc : a ≤ s.cfg.maxAddr) :
      Moves inp s { captureFields 2#2 a false 0#8 (s.emit (.accept 2#2 a false 0#8)) with
        rdataValid := false, state := .dirIn }
  | wrb (h : s.state = .idle) (hq : inp.reqValid = true) {a : Half} {v : Byte}
      (hd : decode inp.reqWord = .ok (.wrb a v)) (hc : a ≤ s.cfg.maxAddr) :
      Moves inp s { captureFields 3#2 a false v (s.emit (.accept 3#2 a false v)) with
        state := .dirOut }
  | dirIn (h : s.state = .dirIn) : Moves inp s (dirInTick s)
  | dirOut (h : s.state = .dirOut) : Moves inp s (dirOutTick s)
  | shiftOn (h : s.state = .shift) (hk : s.idx.toNat < 15) :
      Moves inp s { shiftBit s (frameBit s.frame s.idx.toNat) with idx := s.idx + 1#4 }
  | shiftLast (h : s.state = .shift) (hk : s.idx = 15#4) :
      Moves inp s { shiftBit s (frameBit s.frame 15) with idx := 0#4, state := .latch }
  | latchSet (h : s.state = .latch) (ho : s.op = 1#2) :
      Moves inp s { latchPulse s with state := .done }
  | latchRead (h : s.state = .latch) (ho : s.op = 2#2) (hz : s.cfg.pReadSetupTicks = 0) :
      Moves inp s { latchPulse s with idx := 0#4, state := .rdSample }
  | latchWait (h : s.state = .latch) (ho : s.op = 2#2) (hz : s.cfg.pReadSetupTicks ≠ 0) :
      Moves inp s { latchPulse s with
        timer := BitVec.ofNat 32 s.cfg.pReadSetupTicks, state := .rdWait }
  | latchWrite (h : s.state = .latch) (ho : s.op = 3#2) :
      Moves inp s { latchPulse s with idx := 0#4, state := .wrDrive }
  | waitOn (h : s.state = .rdWait) (ht : s.timer ≠ 1#32) :
      Moves inp s { s with timer := s.timer - 1#32 }
  | waitLast (h : s.state = .rdWait) (ht : s.timer = 1#32) :
      Moves inp s { s with timer := 0#32, idx := 0#4, state := .rdSample }
  | sampleOn (h : s.state = .rdSample) (hk : s.idx.toNat < 7) :
      Moves inp s { takeSample s s.idx.toNat with idx := s.idx + 1#4 }
  | sampleLast (h : s.state = .rdSample) (hk : s.idx = 7#4) :
      Moves inp s (finishRead (takeSample s 7))
  | driveOn (h : s.state = .wrDrive) (hk : s.idx.toNat < 7) :
      Moves inp s { driveBit s s.idx.toNat with idx := s.idx + 1#4 }
  | driveLast (h : s.state = .wrDrive) (hk : s.idx = 7#4) :
      Moves inp s (finishDrive (driveBit s 7))
  | lowOn (h : s.state = .wrWeLow) (ht : s.timer ≠ 1#32) :
      Moves inp s { s with timer := s.timer - 1#32 }
  | lowLast (h : s.state = .wrWeLow) (ht : s.timer = 1#32) :
      Moves inp s (weLowExit { s with timer := 0#32 })
  | settleOn (h : s.state = .wrSettle) (ht : s.timer ≠ 1#32) :
      Moves inp s { s with timer := s.timer - 1#32 }
  | settleLast (h : s.state = .wrSettle) (ht : s.timer = 1#32) :
      Moves inp s { s with timer := 0#32, state := .done }
  | done (h : s.state = .done) : Moves inp s (doneTick s)

/-- The state's own action is one of the moves, but for IDLE's (R120). -/
theorem ownAction_moves {inp : Input} {s u : State} (hi : s.state ≠ .idle)
    (hu : ownAction s = .next u) : Moves inp s u := by
  unfold ownAction at hu
  split at hu
  case h_1 h => exact absurd h hi
  case h_2 h => cases hu; exact .dirIn h
  case h_3 h => cases hu; exact .dirOut h
  case h_4 h =>
    cases hu
    unfold shiftTick
    by_cases hk : s.idx = 15#4
    · rw [if_pos hk]; exact .shiftLast h hk
    · rw [if_neg hk]
      refine .shiftOn h ?_
      have h16 := s.idx.isLt
      have hne : s.idx.toNat ≠ 15 := fun hc => hk (BitVec.eq_of_toNat_eq hc)
      omega
  case h_5 h =>
    rcases latchTick_next hu with ⟨ho, rfl⟩ | ⟨ho, hz, rfl⟩ | ⟨ho, hz, rfl⟩ | ⟨ho, rfl⟩
    · exact .latchSet h ho
    · exact .latchRead h ho hz
    · exact .latchWait h ho hz
    · exact .latchWrite h ho
  case h_6 h =>
    cases hu
    rcases timedTick_cases s (fun t => { t with idx := 0#4, state := .rdSample }) with ⟨ht, he⟩ | ⟨ht, he⟩
    · rw [rdWaitTick, he]; exact .waitLast h ht
    · rw [rdWaitTick, he]; exact .waitOn h ht
  case h_7 h =>
    rcases rdSampleTick_next hu with ⟨hk, rfl⟩ | ⟨hk, rfl⟩
    · exact .sampleLast h hk
    · exact .sampleOn h hk
  case h_8 h =>
    rcases wrDriveTick_next hu with ⟨hk, rfl⟩ | ⟨hk, rfl⟩
    · exact .driveLast h hk
    · exact .driveOn h hk
  case h_9 h =>
    cases hu
    rcases timedTick_cases s weLowExit with ⟨ht, he⟩ | ⟨ht, he⟩
    · rw [wrWeLowTick, he]; exact .lowLast h ht
    · rw [wrWeLowTick, he]; exact .lowOn h ht
  case h_10 h =>
    cases hu
    rcases timedTick_cases s (fun t => { t with state := .done }) with ⟨ht, he⟩ | ⟨ht, he⟩
    · rw [wrSettleTick, he]; exact .settleLast h ht
    · rw [wrSettleTick, he]; exact .settleOn h ht
  case h_11 h => cases hu; exact .done h
  case h_12 h => cases hu; exact .fault h

/-- A tick's action that goes on is one of the moves. -/
theorem portAction_moves {inp : Input} {s u : State} (hu : portAction inp s = .next u) :
    Moves inp s u := by
  rcases portAction_cases inp s with ⟨h1, h2⟩ | ⟨hs, hq, ⟨i, hd, h3⟩ | ⟨e, hd, h3⟩⟩
  · rw [h2] at hu
    by_cases hs : s.state = .idle
    · simp only [ownAction, hs] at hu
      cases hu
      exact .idle hs (h1.resolve_left (fun hn => hn hs))
    · exact ownAction_moves hs hu
  · rw [h3] at hu
    cases hu
    cases i with
    | setaddr a e =>
      rcases acceptSetaddr_cases a e s with ⟨hc, he⟩ | ⟨hc, he⟩ <;> simp only [acceptOf] <;> rw [he]
      · exact .contention hs hq hd hc
      · exact .setaddr hs hq hd hc
    | rdb a =>
      rcases acceptRdb_cases a s with ⟨hc, he⟩ | ⟨hc, he⟩ <;> simp only [acceptOf] <;> rw [he]
      · exact .readRange hs hq hd hc
      · exact .rdb hs hq hd hc
    | wrb a v =>
      rcases acceptWrb_cases a v s with ⟨hc, he⟩ | ⟨hc, he⟩ <;> simp only [acceptOf] <;> rw [he]
      · exact .writeRange hs hq hd hc
      · exact .wrb hs hq hd hc
  · rw [h3] at hu
    cases hu
    exact .illegal hs hq hd

/-- What a step that goes on did, by cases: the reset; nothing, over a stuck device; or one of the moves and
the end of the tick. -/
theorem step_moves {s t : State} (h : step s = .next t) :
    s.cfg.valid = true ∧
      ((s.input.reset = true ∧ t = resetWholeTick s) ∨
       (s.input.reset = false ∧ s.deviceStuck = true ∧ t = stuckTick s) ∨
       (s.input.reset = false ∧ s.deviceStuck = false ∧
          ∃ u, Moves s.input s.takeInput u ∧ t = endTick s.pending u)) := by
  obtain ⟨hv, hr | hr | ⟨hr, hd, u, hu, ht⟩⟩ := step_eq_next.mp h
  · exact ⟨hv, .inl hr⟩
  · exact ⟨hv, .inr (.inl hr)⟩
  · exact ⟨hv, .inr (.inr ⟨hr, hd, u, portAction_moves hu, ht⟩)⟩

end Sys2Proof.Machine
end

