-- ==== Sys2Proof/Laws/Run.lean ====
section
/-! SUPPORT. Laws of runs: how the ticks of a run compose. -/

namespace Sys2Proof.Machine

@[simp] theorem run_zero (s : State) : run 0 s = .next s := rfl

/-- A run begins with one step. -/
theorem run_succ {s s' : State} (n : Nat) (h : step s = .next s') : run (n + 1) s = run n s' := by
  have hc : Sys2Proof.core.step s = .next s' := h
  simp only [run, Host.Core.run, hc]
  rfl

/-- A run that answers a next state after `n + 1` ticks answered one after the first. -/
theorem run_succ_next {s t : State} {n : Nat} (h : run (n + 1) s = .next t) :
    ∃ s', step s = .next s' ∧ run n s' = .next t := by
  simp only [run, Host.Core.run] at h
  split at h
  · next s' hs => exact ⟨s', hs, h⟩
  · cases h
  · cases h

/-- Runs compose. -/
theorem run_add {s t : State} {m : Nat} (n : Nat) (h : run m s = .next t) :
    run (m + n) s = run n t := by
  induction m generalizing s with
  | zero =>
    rw [run_zero, Host.Outcome.next.injEq] at h
    rw [h, Nat.zero_add]
  | succ m ih =>
    obtain ⟨s', hs, hr⟩ := run_succ_next h
    rw [Nat.succ_add, run_succ _ hs]
    exact ih hr

end Sys2Proof.Machine
end

