-- ==== Sys2Proof/Tests/Slice0.lean ====
section
/-! SUPPORT. Slice0: the model's own tests. Expected results come from spec/95_test_vectors.md where a vector
is named, else from the pattern strings of R71 or the rule named. The witnesses at the end show, for each
obligation with hypotheses, a state and operands that meet them. -/

namespace Sys2Proof.Tests

open Sys2Proof.Machine

/-! ### Small states -/

/-- A valid configuration in which the settle delay is one tick. -/
def shortCfg : Config := { Config.reference with pTick := 6000000, pSettleTicks := 1 }

/-- The same for the 8 KB device. -/
def shortCfg8 : Config := { shortCfg with variant := .kb8 }

/-- The reset state in sequencer state `x` under the short configuration. -/
def inState (x : SeqState) : State := { State.reset with cfg := shortCfg, state := x }

/-- `s` in a tick whose port shows word `w`. -/
def asking (w : Word) (s : State) : State := { s with inputs := [⟨false, true, w⟩] }

/-- `s` in a tick with RESET = 1. -/
def resetting (s : State) : State := { s with inputs := [⟨true, false, 0#32⟩] }

/-- `s` with the data bus pointing out. -/
def drivingOut (s : State) : State := { s with ddir := .output }

/-- `s` with a write to cell 7 pending, `r` ns to go. -/
def settling (r : Nat) (s : State) : State := { s with pending := some ⟨7#15, 0x42#8, r⟩ }

/-! ### WellFormed (R80): each check refuses an ill-formed term -/

theorem test_setaddr_address_too_large : (Source.setaddr 65536 1).wellFormed = false := by decide
theorem test_setaddr_enable_too_large : (Source.setaddr 0 2).wellFormed = false := by decide
theorem test_rdb_address_too_large : (Source.rdb 65536).wellFormed = false := by decide
theorem test_wrb_address_too_large : (Source.wrb 65536 0).wellFormed = false := by decide
theorem test_wrb_value_too_large : (Source.wrb 0 256).wellFormed = false := by decide
theorem test_dump_address_too_large : (Source.dump 65536).wellFormed = false := by decide
theorem test_erase_address_too_large : (Source.erase 65536).wellFormed = false := by decide
theorem test_wrblk_value_too_large : (Source.wrblk [0, 256]).wellFormed = false := by decide
theorem test_largest_operands_are_well_formed :
    (Source.setaddr 65535 1).wellFormed = true ∧ (Source.wrb 65535 255).wellFormed = true := by decide

/-! ### Decode (R71 to R73): words by the pattern strings of R71, and vectors V-E1 to V-E17 -/

theorem test_decode_setaddr_bit_by_bit :
    decode 0b01000001000100100011010000000000#32 = .ok (.setaddr 0x1234#16 true) := by decide
theorem test_decode_rdb_bit_by_bit :
    decode 0b10000000011111111111111100000000#32 = .ok (.rdb 0x7FFF#16) := by decide
theorem test_decode_wrb_bit_by_bit :
    decode 0b11000000000100100011010010100101#32 = .ok (.wrb 0x1234#16 0xA5#8) := by decide
theorem test_decode_legal_vectors :
    decode 0x40123400#32 = .ok (.setaddr 0x1234#16 false) ∧
    decode 0x80000100#32 = .ok (.rdb 1#16) ∧
    decode 0xC0000001#32 = .ok (.wrb 0#16 1#8) ∧
    decode 0xC0FFFC00#32 = .ok (.wrb 0xFFFC#16 0#8) := by decide
theorem test_decode_illegal_vectors :
    decode 0x3FFFFFFF#32 = .error .reservedOp ∧
    decode 0x40000001#32 = .error .unusedValue ∧
    decode 0x7FFFFFFF#32 = .error .reservedBits ∧
    decode 0x80000001#32 = .error .unusedValue ∧
    decode 0x81000000#32 = .error .unusedEnable ∧
    decode 0xC1000000#32 = .error .unusedEnable ∧
    decode 0xFFFFFFFF#32 = .error .reservedBits := by decide
theorem test_encode_vectors :
    encode (.setaddr 0xFFFF#16 true) = 0x41FFFF00#32 ∧ encode (.rdb 0x10#16) = 0x80001000#32 ∧
    encode (.wrb 0x20#16 0x3C#8) = 0xC000203C#32 := by decide
theorem test_decodeTableWord :
    decodeTableWord 32 0x41123400 = some (.setaddr 0x1234#16 true) ∧ decodeTableWord 32 0 = none ∧
    decodeTableWord 40 0x41123400 = none := by decide

/-! ### Frames, shifts and bits: V-F5, V-F8, V-F13, V-F15, V-F19, V-S1, V-R1, V-W1 -/

theorem test_frames_vectors :
    frames 0x1234#16 false = 0x9234#16 ∧ frames 0x2000#16 true = 0x2000#16 ∧
    frames 0x8000#16 true = 0x8000#16 ∧ frames 0xFFFC#16 true = 0xFFFC#16 ∧
    frames 0xAA55#16 true = 0xAA55#16 := by decide
theorem test_shift_chain :
    (List.range 16).foldl (fun v k => shiftIn16 v (frameBit 0x1234#16 k)) 0xFFFF#16 = 0x1234#16 := by
  decide
theorem test_first_bit_is_the_enable : frameBit (frames 0x1234#16 false) 0 = true := by decide
theorem test_accumulator_vector :
    [true, false, true, false].foldl shiftIn8 0#8 = 0x0A#8 ∧
    [true, false, true, false, false, true, false, true].foldl shiftIn8 0xFF#8 = 0xA5#8 := by decide
theorem test_drive_vector :
    [false, false, true, true, true, true, false, false].zipIdx.foldl
      (fun v p => setBit8 v p.2 p.1) 0xFF#8 = 0x3C#8 := by decide
theorem test_kb8_ignores_the_upper_lines :
    ({ inState .idle with cfg := shortCfg8, out := 0x3FFF#16 } : State).devAddr = 0x1FFF#15 := by decide

/-! ### One step of each request -/

/-- V-S1: accepted from reset, its frames captured, shifting next. -/
theorem test_setaddr_is_accepted :
    ∃ t, step (State.reset.withFetchWord 32 0x41123400) = .next t ∧
      t.frame = 0x1234#16 ∧ t.state = .shift ∧ t.out = State.reset.out := ⟨_, rfl, by decide⟩
/-- V-X2. -/
theorem test_setaddr_contention :
    ∃ t, step ((drivingOut State.reset).withFetchWord 32 0x41000500) = .next t ∧
      t.faultCode = 3#2 ∧ t.state = .fault := ⟨_, rfl, by decide⟩
/-- V-R2: `MAX_ADDR` is valid. -/
theorem test_rdb_is_accepted :
    ∃ t, step (State.reset.withFetchWord 32 0x807FFF00) = .next t ∧
      t.addr = 0x7FFF#16 ∧ t.state = .dirIn := ⟨_, rfl, by decide⟩
/-- V-R3. -/
theorem test_rdb_out_of_range :
    ∃ t, step (State.reset.withFetchWord 32 0x80800000) = .next t ∧
      t.faultCode = 2#2 ∧ t.trace = [.accept 2#2 0x8000#16 false 0#8, .fault 2#2] := ⟨_, rfl, by decide⟩
/-- V-W1. -/
theorem test_wrb_is_accepted :
    ∃ t, step (State.reset.withFetchWord 32 0xC000203C) = .next t ∧
      t.addr = 0x20#16 ∧ t.data = 0x3C#8 ∧ t.state = .dirOut := ⟨_, rfl, by decide⟩
/-- V-W4. -/
theorem test_wrb_out_of_range :
    ∃ t, step (State.reset.withFetchWord 32 0xC0FFFC00) = .next t ∧
      t.faultCode = 2#2 ∧ t.mem = State.reset.mem := ⟨_, rfl, by decide⟩
/-- V-X1: an illegal word. -/
theorem test_illegal_word :
    ∃ t, step (State.reset.withFetchWord 32 0) = .next t ∧ t.faultCode = 1#2 ∧ t.ready = false :=
  ⟨_, rfl, by decide⟩

/-! ### Assembly (R80; V-E1, V-E6) -/

theorem test_assemble_setaddr :
    (assembleLine ['S', 'E', 'T', 'A', 'D', 'D', 'R', ' ', '0', 'x', '1', '2', '3', '4', ',', ' ', 'R', 'D']).toOption
      = some [.setaddr 0x1234#16 true] := by decide
theorem test_assemble_wrb_with_comment :
    (assembleLine ['W', 'R', 'B', ' ', '0', ',', '0', 'x', '0', '1', ' ', ';', 'x']).toOption
      = some [.wrb 0#16 1#8] := by decide
theorem test_assemble_wrblk :
    (assembleLine ['W', 'R', 'B', 'L', 'K', ' ', '[', '1', ',', ' ', '2', ']']).toOption
      = some [.wrb 0#16 1#8, .wrb 1#16 2#8] := by decide
theorem test_assemble_too_large :
    (assembleLine ['R', 'D', 'B', ' ', '6', '5', '5', '3', '6']).toOption = none := by decide

/-! ### Witnesses: the hypotheses of the obligations can be met -/

theorem test_witness_decodeOfEncode :
    (Instr.setaddr 0xFFFF#16 true).wellFormed = true ∧ (Instr.rdb 0#16).wellFormed = true ∧
    (Instr.wrb 0xFFFF#16 0xFF#8).wellFormed = true := by decide

theorem test_witness_encodeOfDecode : decode 0xC07FFFFF#32 = .ok (.wrb 0x7FFF#16 0xFF#8) := by decide

theorem test_witness_illegalWord :
    legalWord 0x40000001#32 = false ∧ shortCfg.valid = true ∧
    (asking 0x40000001#32 (inState .idle)).deviceStuck = false ∧
    (asking 0x40000001#32 (inState .idle)).state = .idle ∧
    (asking 0x40000001#32 (inState .idle)).input = ⟨false, true, 0x40000001#32⟩ := by decide

theorem test_witness_deviceDrives :
    (({ inState .idle with out := 0x7FFF#16 } : State).out = frames 0x7FFF#16 true ∧
      (0x7FFF#16).getLsbD 15 = false ∧ (inState .idle).pending = none) ∧
    ({ inState .idle with out := 0x8000#16 } : State).out = frames 0x8000#16 true ∧
    (0x8000#16).getLsbD 15 = true ∧ ({ inState .idle with out := 0x8000#16 } : State).out = frames 0#16 false := by
  decide

/-- A stuck device without and with RESET. -/
theorem test_witness_stuck :
    ∀ s ∈ [{ settling 1 (inState .idle) with deviceStuck := true },
        resetting { settling 1 (inState .wrSettle) with deviceStuck := true }],
      s.cfg.valid = true ∧ s.deviceStuck = true ∧ (s.input.reset = true ↔ s.state = .wrSettle) := by
  decide

theorem test_witness_stepRuns :
    (asking 0x80000100#32 (inState .idle)).cfg.valid = true ∧
    (asking 0x80000100#32 (inState .idle)).input.reset = false ∧
    (asking 0x80000100#32 (inState .idle)).deviceStuck = false ∧
    (asking 0x80000100#32 (inState .idle)).input.reqValid = true ∧
    decode (asking 0x80000100#32 (inState .idle)).input.reqWord = .ok (.rdb 1#16) ∧
    (Instr.rdb 1#16).wellFormed = true := by decide

/-- V-W7 and V-W8 among them. -/
theorem test_witness_invalidConfigurations :
    Config.reference.valid = true ∧
    ({ Config.reference with pTick := 0 } : Config).valid = false ∧
    ({ Config.reference with pWeTicks := 0 } : Config).valid = false ∧
    ({ Config.reference with pSettleTicks := 0 } : Config).valid = false ∧
    ({ Config.reference with pTick := 999, pSettleTicks := 7000 } : Config).valid = false ∧
    ({ Config.reference with pSettleTicks := 5999 } : Config).valid = false ∧
    ({ Config.reference with pWeTicks := 4294967296 } : Config).valid = false ∧
    ({ Config.reference with pSettleTicks := 4294967296 } : Config).valid = false ∧
    ({ Config.reference with pReadSetupTicks := 4294967296 } : Config).valid = false := by decide

theorem test_witness_idleTick :
    (inState .idle).cfg.valid = true ∧ (inState .idle).input.reset = false ∧
    (inState .idle).input.reqValid = false ∧ (inState .idle).state = .idle ∧
    (inState .idle).contending = false := by decide

theorem test_witness_notIdle : (inState .shift).state ≠ .idle ∧ (inState .fault).state ≠ .idle := by decide

theorem test_witness_resultValid :
    ({ inState .idle with rdataValid := true } : State).rdataValid = true := by decide

theorem test_witness_acceptance :
    (asking 0x41123400#32 (inState .idle)).cfg.valid = true ∧
    (asking 0x41123400#32 (inState .idle)).deviceStuck = false ∧
    (asking 0x41123400#32 (inState .idle)).state = .idle ∧
    (asking 0x41123400#32 (inState .idle)).input = ⟨false, true, 0x41123400#32⟩ := by decide

theorem test_witness_accepted :
    (inState .idle).state = .idle ∧ (inState .idle).ddir = .input ∧
    (frames 0x8000#16 true).getLsbD 15 = true ∧ 0x7FFF#16 ≤ (inState .idle).cfg.maxAddr ∧
    0x1FFF#16 ≤ ({ inState .idle with cfg := shortCfg8 } : State).cfg.maxAddr := by decide

theorem test_witness_contention :
    (drivingOut (inState .idle)).state = .idle ∧ (drivingOut (inState .idle)).ddir = .output ∧
    (0x7FFF#16).getLsbD 15 = false := by decide

theorem test_witness_addrRange :
    (({ inState .idle with cfg := shortCfg8 } : State).cfg.variant = .kb8 ∧ 0x1FFF#16 < 0x2000#16) ∧
    ((inState .idle).cfg.variant = .kb32 ∧ 0x7FFF#16 < 0x8000#16) := by decide

/-- For the obligations about a fault entry. -/
theorem test_witness_faultEntry :
    ∃ t, step (asking 0#32 (inState .idle)) = .next t ∧ t.state = .fault ∧
      (asking 0#32 (inState .idle)).state = .idle ∧
      (asking 0#32 (inState .idle)).state ≠ .fault ∧
      (asking 0#32 (inState .idle)).contending = false := ⟨_, rfl, by decide⟩

theorem test_witness_faultIsLeft :
    (inState .fault).cfg.valid = true ∧ (inState .fault).state = .fault ∧
    (inState .fault).contending = false ∧ (inState .fault).input.reset = false ∧
    (resetting (inState .fault)).input.reset = true := by decide

/-- The hypotheses of the obligations on one tick of a state. -/
theorem test_witness_ticks :
    ∀ x ∈ [SeqState.shift, .latch, .dirIn, .rdSample, .done, .dirOut, .wrDrive, .wrWeLow],
      (inState x).cfg.valid = true ∧ (inState x).input.reset = false ∧ (inState x).state = x ∧
      (inState x).deviceStuck = false ∧
      (inState x).idx.toNat ≤ 7 := by decide

theorem test_witness_lastSteps :
    ({ inState .shift with idx := 15#4 } : State).idx.toNat = 15 ∧
    ({ inState .rdSample with idx := 7#4 } : State).idx.toNat = 7 ∧
    ({ inState .wrDrive with idx := 7#4 } : State).idx.toNat = 7 := by decide

/-- The four clauses of the LATCH tick, and a LATCH tick that changes OUT. -/
theorem test_witness_latch :
    (({ inState .latch with op := 1#2 } : State).op = 1#2 ∧
      ({ inState .latch with op := 2#2 } : State).cfg.pReadSetupTicks = 0 ∧
      ({ shortCfg with pReadSetupTicks := 1 } : Config).valid = true ∧
      ({ inState .latch with op := 3#2 } : State).op = 3#2) ∧
    ∃ t, step { inState .latch with op := 1#2, sr := 1#16 } = .next t ∧ t.out ≠ (inState .latch).out :=
  ⟨by decide, _, rfl, by decide⟩

/-- A sample that is driven, and one over a floating bus. -/
theorem test_witness_samples :
    ((inState .rdSample).ddir = .input ∧ (inState .rdSample).out.getLsbD 15 = false ∧
      (inState .rdSample).pending = none ∧
      (inState .rdSample).cfg.accessTicks ≤ (inState .rdSample).cfg.pReadSetupTicks + 0) ∧
    ({ inState .rdSample with out := 0x8000#16 } : State).out.getLsbD 15 = true := by decide

/-- The last WR_WE_LOW tick over a quiet device, and over a pending write. -/
theorem test_witness_weLow :
    ({ inState .wrWeLow with timer := 1#32 } : State).timer = 1#32 ∧
    (inState .wrWeLow).deviceStuck = false ∧ (inState .wrWeLow).pending = none ∧
    ({ inState .wrWeLow with timer := 2#32 } : State).timer ≠ 1#32 ∧
    1 ≤ ({ inState .wrWeLow with timer := 2#32 } : State).timer.toNat ∧
    (settling 1 { inState .wrWeLow with timer := 1#32 }).deviceStuck = false ∧
    (settling 1 { inState .wrWeLow with timer := 1#32 }).pending ≠ none ∧
    (settling 1 { inState .wrWeLow with timer := 1#32 }).timer = 1#32 := by decide

theorem test_witness_timed :
    ∀ x ∈ [SeqState.rdWait, .wrWeLow, .wrSettle],
      ({ inState x with timer := 1#32 } : State).cfg.valid = true ∧
      ({ inState x with timer := 1#32 } : State).deviceStuck = false ∧
      ({ inState x with timer := 2#32 } : State).timer ≠ 1#32 ∧
      ({ inState x with timer := 2#32 } : State).noReset 2 ∧
      1 ≤ ({ inState x with timer := 1#32 } : State).timer.toNat ∧
      ({ inState x with timer := 1#32 } : State).noReset 1 := by decide

/-- A pending write that commits in this tick, changing its cell; one that counts down; one over a stuck
device. -/
theorem test_witness_countdown :
    (∃ t, step (settling 6000000 (inState .idle)) = .next t ∧ t.deviceStuck = false ∧
      t.mem.read 7 ≠ (inState .idle).mem.read 7 ∧
      Memory.wf (inState .idle).cfg.maxAddr.toNat (inState .idle).mem = true ∧
      shortCfg.deviceRetains = true) ∧
    (∃ t, step (settling 6000001 (inState .idle)) = .next t ∧ t.deviceStuck = false) ∧
    (∃ t, step { settling 1 (inState .idle) with deviceStuck := true } = .next t ∧ t.deviceStuck = true) :=
  ⟨⟨_, rfl, by decide⟩, ⟨_, rfl, by decide⟩, ⟨_, rfl, by decide⟩⟩

/-- A step that answers a next state, for the obligations on who writes what; here it writes RDATA,
RDATA_VALID and ACC. -/
theorem test_witness_lastSample :
    ∃ t, step { inState .rdSample with idx := 7#4, acc := 0x7F#8, mem := [] } = .next t ∧
      t.rdata ≠ (inState .rdSample).rdata ∧ t.acc ≠ 0x7F#8 ∧ t.rdataValid = true := ⟨_, rfl, by decide⟩

/-- Steps that write OP, clear RDATA_VALID, and write DDIR and DOUT. -/
theorem test_witness_writers :
    (∃ t, step (asking 0x80000100#32 { inState .idle with rdataValid := true }) = .next t ∧
      t.op ≠ (inState .idle).op ∧ t.rdataValid = false) ∧
    (∃ t, step (inState .dirOut) = .next t ∧ t.ddir ≠ (inState .dirOut).ddir) ∧
    (∃ t, step { inState .wrDrive with data := 1#8 } = .next t ∧ t.dout ≠ (inState .wrDrive).dout) ∧
    (∃ t, step (asking 0#32 (inState .idle)) = .next t ∧ t.faultCode ≠ (inState .idle).faultCode) :=
  ⟨⟨_, rfl, by decide⟩, ⟨_, rfl, by decide⟩, ⟨_, rfl, by decide⟩, ⟨_, rfl, by decide⟩⟩

/-- A reset in IDLE, in WR_WE_LOW over a quiet device (V-Z1), there over a pending write, and there over a stuck
device. -/
theorem test_witness_reset :
    (∃ t, step (resetting (inState .idle)) = .next t ∧ (inState .idle).state ≠ .wrWeLow ∧
      (resetting (inState .idle)).input.reset = true ∧ (inState .idle).pending = none) ∧
    (∃ t, step (resetting (inState .wrWeLow)) = .next t ∧ t.pending ≠ none ∧
      (inState .wrWeLow).deviceStuck = false ∧ t.trace = [.weRise]) ∧
    (∃ t, step (resetting (settling 1 (inState .wrWeLow))) = .next t ∧ t.deviceStuck = true ∧
      (settling 1 (inState .wrWeLow)).deviceStuck = false) ∧
    (∃ t, step (resetting { settling 1 (inState .wrWeLow) with deviceStuck := true }) = .next t ∧
      t.pending ≠ none) :=
  ⟨⟨_, rfl, by decide⟩, ⟨_, rfl, by decide⟩, ⟨_, rfl, by decide⟩, ⟨_, rfl, by decide⟩⟩

theorem test_witness_powerUp : Memory.wf shortCfg.maxAddr.toNat [(0x7FFF, 0x42#8)] = true := by decide

/-- The invariant holds in a sample tick over a cell with nothing pending. -/
theorem test_witness_invSample :
    State.Inv { inState .rdSample with op := 2#2 } ∧ (inState .rdSample).pending = none := by
  refine ⟨?_, by decide⟩
  unfold State.Inv
  refine ⟨?_, ?_, ?_, ?_, ?_, ?_, ?_, ?_, ?_, ?_, ?_, ?_, ?_, ?_, ?_, ?_⟩ <;> decide

/-- The invariant holds in the last WR_SETTLE tick with the write pending, which settles in it. -/
theorem test_witness_invSettle :
    State.Inv { settling 6000000 (inState .wrSettle) with
      op := 3#2, addr := 7#16, data := 0x42#8, dout := 0x42#8, out := 0x8007#16, ddir := .output,
      timer := 1#32 } ∧
    ∃ t, step { settling 6000000 (inState .wrSettle) with
      op := 3#2, addr := 7#16, data := 0x42#8, dout := 0x42#8, out := 0x8007#16, ddir := .output,
      timer := 1#32 } = .next t ∧ t.state = .done ∧ t.pending = none := by
  refine ⟨?_, _, rfl, by decide⟩
  unfold State.Inv
  refine ⟨?_, ?_, ?_, ?_, ?_, ?_, ?_, ?_, ?_, ?_, ?_, ?_, ?_, ?_, ?_, ?_⟩ <;> decide

/-- The invariant holds over a stuck device, whose pending write is to cell 7 and whose second write was to cell
9; for the obligation on power loss. -/
theorem test_witness_invStuck :
    State.Inv { settling 1 (inState .idle) with deviceStuck := true, out := 0x8009#16 } ∧
    ({ settling 1 (inState .idle) with deviceStuck := true, out := 0x8009#16 } : State).devAddr = 9#15 := by
  refine ⟨?_, by decide⟩
  unfold State.Inv
  refine ⟨?_, ?_, ?_, ?_, ?_, ?_, ?_, ?_, ?_, ?_, ?_, ?_, ?_, ?_, ?_, ?_⟩ <;> decide

/-- A read-to-write turn: DIR_OUT over an enabled device notes a Contend event. -/
theorem test_witness_turn :
    State.Inv { inState .dirOut with op := 3#2 } ∧
    ∃ t, step { inState .dirOut with op := 3#2 } = .next t ∧ t.trace.count .contend ≠ 0 := by
  refine ⟨?_, _, rfl, by decide⟩
  unfold State.Inv
  refine ⟨?_, ?_, ?_, ?_, ?_, ?_, ?_, ?_, ?_, ?_, ?_, ?_, ?_, ?_, ?_, ?_⟩ <;> decide

/-- The reset state is ready for a request of each kind, at the top of its range. -/
theorem test_witness_readyForSetaddr :
    (asking 0x41FFFF00#32 (inState .idle)).ReadyFor (.setaddr 0xFFFF#16 true) :=
  ⟨⟨by decide, by decide, by decide, by decide, by decide, by decide,
    show wouldContend _ _ = false by decide, by decide⟩, by decide⟩

/-- The same over a write that commits within the 19 ticks, and over one that does not. -/
theorem test_witness_setaddrOverPending :
    ∀ r ∈ [114000000, 114000001],
      (settling r (asking 0x41FFFF00#32 (inState .idle))).ReadyOver (.setaddr 0xFFFF#16 true) ∧
      (settling r (asking 0x41FFFF00#32 (inState .idle))).pending = some ⟨7#15, 0x42#8, r⟩ ∧
      19 * shortCfg.pTick = 114000000 ∧ shortCfg.deviceRetains = true :=
  have h := test_witness_readyForSetaddr
  fun _ _ => ⟨⟨h.configValid, h.idle, h.deviceSteps, h.notContending, h.requestValid, h.request,
    h.checksPass, h.notReset⟩, rfl, by decide, by decide⟩

theorem test_witness_readyForRdb :
    (asking 0x807FFF00#32 (inState .idle)).ReadyFor (.rdb 0x7FFF#16) ∧
    shortCfg.accessTicks ≤ shortCfg.pReadSetupTicks ∧
    (asking 0x807FFF00#32 (inState .idle)).Inv :=
  ⟨⟨⟨by decide, by decide, by decide, by decide, by decide, by decide,
    show 0x7FFF#16 ≤ shortCfg.maxAddr by decide, by decide⟩, by decide⟩, by decide, by unfold State.Inv; refine ⟨?_, ?_, ?_, ?_, ?_, ?_, ?_, ?_, ?_, ?_, ?_, ?_, ?_, ?_, ?_, ?_⟩ <;> decide⟩

/-- The inputs of a WRITE_BYTE of 0x42 to cell 0x7FFF, 29 quiet ticks, and a READ_BYTE of that cell. -/
def writeThenRead : State :=
  { inState .idle with
    inputs := ⟨false, true, 0xC07FFF42#32⟩ ::
      (List.replicate 29 Input.quiet ++ [⟨false, true, 0x807FFF00#32⟩]) }

theorem test_witness_readyForWrb :
    writeThenRead.ReadyFor (.wrb 0x7FFF#16 0x42#8) ∧ shortCfg.deviceRetains = true ∧
    writeThenRead.Inv :=
  ⟨⟨⟨by decide, by decide, by decide, by decide, by decide, by decide,
    show 0x7FFF#16 ≤ shortCfg.maxAddr by decide, by decide⟩, by decide⟩, by decide, by unfold State.Inv; refine ⟨?_, ?_, ?_, ?_, ?_, ?_, ?_, ?_, ?_, ?_, ?_, ?_, ?_, ?_, ?_, ?_⟩ <;> decide⟩

/-- The write is over, no tick has passed since, and the read is next. -/
theorem test_witness_readBack :
    run 0 (wrbWhole 0x7FFF#16 0x42#8 writeThenRead) = .next (wrbWhole 0x7FFF#16 0x42#8 writeThenRead) ∧
    (wrbWhole 0x7FFF#16 0x42#8 writeThenRead).ReadyFor (.rdb 0x7FFF#16) ∧
    ∀ v', Event.accept 3#2 0x7FFF#16 false v' ∉
      (wrbWhole 0x7FFF#16 0x42#8 writeThenRead).trace.drop
        (wrbWhole 0x7FFF#16 0x42#8 writeThenRead).trace.length :=
  ⟨rfl, ⟨⟨by decide, by decide, by decide, by decide, by decide, by decide,
    show 0x7FFF#16 ≤ shortCfg.maxAddr by decide, by decide⟩, by decide⟩, fun v' => by simp⟩

/-- The same write, then a tick that accepts an illegal word, a tick whose RESET leaves FAULT, and the read. -/
def writeFaultResetRead : State :=
  { writeThenRead with
    inputs := ⟨false, true, 0xC07FFF42#32⟩ ::
      (List.replicate 29 Input.quiet ++
        [⟨false, true, 0#32⟩, ⟨true, false, 0#32⟩, ⟨false, true, 0x807FFF00#32⟩]) }

/-- Two ticks lie between the write and the read; the second has RESET = 1, not in mid-write, and the first
accepts a word that is no WRITE_BYTE. -/
theorem test_witness_readBackBetween :
    ∃ s2, run 2 (wrbWhole 0x7FFF#16 0x42#8 writeFaultResetRead) = .next s2 ∧
      writeFaultResetRead.ReadyFor (.wrb 0x7FFF#16 0x42#8) ∧ s2.ReadyFor (.rdb 0x7FFF#16) ∧
      (∃ u, run 1 (wrbWhole 0x7FFF#16 0x42#8 writeFaultResetRead) = .next u ∧ u.input.reset = true) ∧
      (∀ k u, k < 2 → run k (wrbWhole 0x7FFF#16 0x42#8 writeFaultResetRead) = .next u →
        u.input.reset = true → ¬ u.midWrite) ∧
      (wrbWhole 0x7FFF#16 0x42#8 writeFaultResetRead).trace ++ [.accept 0#2 0#16 false 0#8, .fault 1#2]
        = s2.trace := by
  refine ⟨_, rfl, ⟨⟨by decide, by decide, by decide, by decide, by decide, by decide,
    show 0x7FFF#16 ≤ shortCfg.maxAddr by decide, by decide⟩, by decide⟩,
    ⟨⟨by decide, by decide, by decide, by decide, by decide, by decide,
    show 0x7FFF#16 ≤ shortCfg.maxAddr by decide, by decide⟩, by decide⟩,
    ⟨_, rfl, by decide⟩, ?_, by decide⟩
  intro k u hk hu
  match k with
  | 0 => cases hu; decide
  | 1 => cases hu; decide

/-- A pseudo-instruction's indices and bytes at the ends of their ranges. -/
theorem test_witness_expansion : (65535 : Nat) < 65536 ∧ [1, 2][1]? = some 2 := by decide

end Sys2Proof.Tests
end

section
/-! Scope (R7, R8, R23): which configurations have a run. -/

namespace Sys2Proof

/-- The bounds of R7, R8 and R23, one by one. -/
theorem Config.valid_iff (c : Config) :
    c.valid = true ↔
      1 ≤ c.pTick ∧ 1 ≤ c.pWeTicks ∧ 1 ≤ c.pSettleTicks ∧
      minWeNs ≤ c.pWeTicks * c.pTick ∧ devSettleNs ≤ c.pSettleTicks * c.pTick ∧
      c.pWeTicks < 2 ^ 32 ∧ c.pSettleTicks < 2 ^ 32 ∧ c.pReadSetupTicks < 2 ^ 32 := by
  simp only [Config.valid, Bool.and_eq_true, decide_eq_true_eq, and_assoc]

/-- A configuration is invalid exactly when it breaks one of the bounds (R8, V-W7, V-W8). -/
theorem Config.valid_eq_false_iff (c : Config) :
    c.valid = false ↔
      c.pTick = 0 ∨ c.pWeTicks = 0 ∨ c.pSettleTicks = 0 ∨
      c.pWeTicks * c.pTick < 1000 ∨ c.pSettleTicks * c.pTick < 6000000 ∨
      2 ^ 32 ≤ c.pWeTicks ∨ 2 ^ 32 ≤ c.pSettleTicks ∨ 2 ^ 32 ≤ c.pReadSetupTicks := by
  rw [← Bool.not_eq_true, c.valid_iff, minWeNs, devSettleNs]
  omega

namespace Machine

/-- Under an invalid configuration a step is refused by name, whatever the rest of the state (R8, log 4). -/
theorem step_refused_of_invalid {s : State} (hv : s.cfg.valid = false) :
    step s = .refused .invalidConfig := by
  simp [step, hv]

/-- Settles O9: a broken bound makes the configuration invalid, and `step` refuses an invalid one. -/
theorem invalidConfigurationHasNoStep : Obligations.InvalidConfigurationHasNoStep :=
  fun s hbroken => step_refused_of_invalid (s.cfg.valid_eq_false_iff.mpr hbroken)

end Machine

end Sys2Proof
end

section
/-! Rules of the tick's actions and of the registers they write: an equation for each action, what the end of a
tick and a reset leave alone, and the device's own operations. -/

namespace Sys2Proof

/-- What a word that decodes is: legal, and one of the three requests with the word's own fields (R71, R72). -/
theorem decode_ok_cases {w : Word} {i : Instr} (h : decode w = .ok i) :
    legalWord w = true ∧
    ((opField w = 1#2 ∧ valueField w = 0#8 ∧ i = .setaddr (addrField w) (enableField w)) ∨
     (opField w = 2#2 ∧ enableField w = false ∧ valueField w = 0#8 ∧ i = .rdb (addrField w)) ∨
     (opField w = 3#2 ∧ enableField w = false ∧ i = .wrb (addrField w) (valueField w))) := by
  have hop : opField w = 0#2 ∨ opField w = 1#2 ∨ opField w = 2#2 ∨ opField w = 3#2 := by
    generalize opField w = o
    revert o
    decide
  unfold decode at h
  split_ifs at h with h0 hr h1 hv he h2 hv
  · cases h
    simp_all [legalWord]
  · cases h
    simp_all [legalWord]
  · cases h
    simp_all [legalWord]

namespace Machine

/-! ### The actions, each as the fields it writes -/

@[simp] theorem dirInTick_eq (s : State) : dirInTick s =
    { s with
      trace := s.trace ++ [.dir .input], ddir := .input, acc := 0#8, frame := frames s.addr true,
      idx := 0#4, state := .shift } := rfl

@[simp] theorem dirOutTick_eq (s : State) : dirOutTick s =
    { s with
      trace := s.trace ++ [.dir .output], ddir := .output, frame := frames s.addr false, idx := 0#4,
      state := .shift } := rfl

@[simp] theorem shiftBit_eq (s : State) (b : Bool) : shiftBit s b =
    { s with
      ser := b, srclk := false, sr := shiftIn16 s.sr b, trace := s.trace ++ [.shift b] } := rfl

@[simp] theorem latchPulse_eq (s : State) : latchPulse s =
    { s with rclk := false, out := s.sr, trace := s.trace ++ [.latch s.sr] } := rfl

@[simp] theorem takeSample_eq (s : State) (i : Nat) : takeSample s i =
    { s with
      acc := shiftIn8 s.acc (sampleBit s i), trace := s.trace ++ [.sample i (sampleBit s i)] } := rfl

@[simp] theorem finishRead_eq (s : State) : finishRead s =
    { s with rdata := s.acc, rdataValid := true, idx := 0#4, state := .done } := rfl

@[simp] theorem driveBit_eq (s : State) (i : Nat) : driveBit s i =
    { s with
      dout := setBit8 s.dout i (s.data.getLsbD i),
      trace := s.trace ++ [.drive i (s.data.getLsbD i)] } := rfl

@[simp] theorem finishDrive_eq (s : State) : finishDrive s =
    { s with
      weN := false, timer := BitVec.ofNat 32 s.cfg.pWeTicks, idx := 0#4, state := .wrWeLow,
      trace := s.trace ++ [.weFall] } := rfl

@[simp] theorem weLowExit_eq (s : State) : weLowExit s =
    { (s.emit .weRise).memWrite with
      weN := true, timer := BitVec.ofNat 32 s.cfg.pSettleTicks, state := .wrSettle } := by
  simp [weLowExit]

@[simp] theorem doneTick_eq (s : State) : doneTick s =
    { s with state := .idle, trace := s.trace ++ [.done s.op (doneResult s)] } := rfl

@[simp] theorem acceptIllegal_eq (w : Word) (s : State) : acceptIllegal w s =
    raiseFault illegalRequest
      (s.emit (.accept (opField w) (addrField w) (enableField w) (valueField w))) := rfl

/-! ### The end of a tick, and the reset tick -/

/-- The countdown writes MEM and PENDING only (R57). -/
theorem settle_eq (p : Option PendingWrite) (s : State) :
    s.settle p = { s with mem := (s.settle p).mem, pending := (s.settle p).pending } := by
  unfold State.settle State.commit
  split
  · rfl
  · split
    · rfl
    · split <;> rfl

/-- The end of a tick writes MEM, PENDING, the trace and the tick's number only (R120 steps 3 and 4). -/
theorem endTick_eq (p : Option PendingWrite) (s : State) :
    endTick p s =
      { s with
        mem := (s.settle p).mem, pending := (s.settle p).pending, trace := (endTick p s).trace,
        ticks := s.ticks + 1 } := by
  unfold endTick State.noteContention
  split <;> rw [settle_eq p s] <;> rfl

/-- The write edge of a reset: none, or the capture of a free byte in WR_WE_LOW (R170). -/
theorem resetWriteEdge_cases (s : State) :
    (s.state ≠ .wrWeLow ∧ resetWriteEdge s = s) ∨
    (s.state = .wrWeLow ∧
      resetWriteEdge s = (s.emit .weRise).capture (Config.drawWrite s.ticks)) := by
  unfold resetWriteEdge
  by_cases h : s.state = .wrWeLow
  · exact .inr ⟨h, by rw [if_pos h]; rfl⟩
  · exact .inl ⟨h, by rw [if_neg h]⟩

section
variable (s : State)

/-! What a reset tick writes (R170). -/

@[simp] theorem resetWholeTick_state : (resetWholeTick s).state = .idle := by simp [resetWholeTick, resetTick]
@[simp] theorem resetWholeTick_idx : (resetWholeTick s).idx = 0#4 := by simp [resetWholeTick, resetTick]
@[simp] theorem resetWholeTick_ddir : (resetWholeTick s).ddir = .input := by simp [resetWholeTick, resetTick]
@[simp] theorem resetWholeTick_weN : (resetWholeTick s).weN = true := by simp [resetWholeTick, resetTick]
@[simp] theorem resetWholeTick_srclk : (resetWholeTick s).srclk = false := by simp [resetWholeTick, resetTick]
@[simp] theorem resetWholeTick_rclk : (resetWholeTick s).rclk = false := by simp [resetWholeTick, resetTick]
@[simp] theorem resetWholeTick_faultCode : (resetWholeTick s).faultCode = 0#2 := by simp [resetWholeTick, resetTick]
@[simp] theorem resetWholeTick_rdataValid : (resetWholeTick s).rdataValid = false := by simp [resetWholeTick, resetTick]

/-! What it leaves alone. -/

@[simp] theorem resetWriteEdge_op : (resetWriteEdge s).op = s.op := by
  rcases resetWriteEdge_cases s with ⟨-, h⟩ | ⟨-, h⟩ <;> simp [h]
@[simp] theorem resetWriteEdge_addr : (resetWriteEdge s).addr = s.addr := by
  rcases resetWriteEdge_cases s with ⟨-, h⟩ | ⟨-, h⟩ <;> simp [h]
@[simp] theorem resetWriteEdge_oe : (resetWriteEdge s).oe = s.oe := by
  rcases resetWriteEdge_cases s with ⟨-, h⟩ | ⟨-, h⟩ <;> simp [h]
@[simp] theorem resetWriteEdge_data : (resetWriteEdge s).data = s.data := by
  rcases resetWriteEdge_cases s with ⟨-, h⟩ | ⟨-, h⟩ <;> simp [h]
@[simp] theorem resetWriteEdge_rdata : (resetWriteEdge s).rdata = s.rdata := by
  rcases resetWriteEdge_cases s with ⟨-, h⟩ | ⟨-, h⟩ <;> simp [h]
@[simp] theorem resetWriteEdge_dout : (resetWriteEdge s).dout = s.dout := by
  rcases resetWriteEdge_cases s with ⟨-, h⟩ | ⟨-, h⟩ <;> simp [h]
@[simp] theorem resetWriteEdge_acc : (resetWriteEdge s).acc = s.acc := by
  rcases resetWriteEdge_cases s with ⟨-, h⟩ | ⟨-, h⟩ <;> simp [h]
@[simp] theorem resetWriteEdge_cfg : (resetWriteEdge s).cfg = s.cfg := by
  rcases resetWriteEdge_cases s with ⟨-, h⟩ | ⟨-, h⟩ <;> simp [h]

@[simp] theorem resetWholeTick_op : (resetWholeTick s).op = s.op := by simp [resetWholeTick, resetTick]
@[simp] theorem resetWholeTick_addr : (resetWholeTick s).addr = s.addr := by simp [resetWholeTick, resetTick]
@[simp] theorem resetWholeTick_oe : (resetWholeTick s).oe = s.oe := by simp [resetWholeTick, resetTick]
@[simp] theorem resetWholeTick_data : (resetWholeTick s).data = s.data := by simp [resetWholeTick, resetTick]
@[simp] theorem resetWholeTick_rdata : (resetWholeTick s).rdata = s.rdata := by simp [resetWholeTick, resetTick]
@[simp] theorem resetWholeTick_dout : (resetWholeTick s).dout = s.dout := by simp [resetWholeTick, resetTick]
@[simp] theorem resetWholeTick_acc : (resetWholeTick s).acc = s.acc := by simp [resetWholeTick, resetTick]
@[simp] theorem resetWholeTick_cfg : (resetWholeTick s).cfg = s.cfg := by simp [resetWholeTick, resetTick]

/-- A reset tick keeps the trace, with the write edge's WeRise in WR_WE_LOW (R170, log 24). -/
theorem resetWholeTick_trace :
    (resetWholeTick s).trace = s.trace ++ (if s.state = .wrWeLow then [.weRise] else []) := by
  rcases resetWriteEdge_cases s.takeInput with ⟨hs, h⟩ | ⟨hs, h⟩ <;>
    simp_all [resetWholeTick, resetTick]

end

/-! ### What the moves leave alone -/

section
variable {inp : Input} {s u : State}

/-- No move writes the configuration (R39). -/
theorem Moves.cfg_eq (hm : Moves inp s u) : u.cfg = s.cfg := by
  cases hm <;> simp

/-- A move appends its events to the trace; the Contend event is none of them (R40, R120 step 4). -/
theorem Moves.trace_grows (hm : Moves inp s u) :
    ∃ es, u.trace = s.trace ++ es ∧ Event.contend ∉ es := by
  cases hm
  case idle | fault | waitOn | waitLast | lowOn | settleOn | settleLast =>
    exact ⟨[], (List.append_nil _).symm, by simp⟩
  case illegal | contention | readRange | writeRange | driveLast =>
    exact ⟨[_, _], List.append_assoc s.trace [_] [_], by simp⟩
  case lowLast => exact ⟨[.weRise], by simp, by simp⟩
  all_goals exact ⟨[_], by simp; rfl, by simp⟩

/-- OP, ADDR, OE and DATA are written by the capture of a legal word, with its fields (R24, R125). -/
theorem Moves.request_registers (hm : Moves inp s u) :
    (u.op = s.op ∧ u.addr = s.addr ∧ u.oe = s.oe ∧ u.data = s.data) ∨
    (s.state = .idle ∧ inp.reqValid = true ∧ legalWord inp.reqWord = true ∧
      u.op = opField inp.reqWord ∧ u.addr = addrField inp.reqWord ∧
      u.oe = enableField inp.reqWord ∧ u.data = valueField inp.reqWord) := by
  cases hm
  case setaddr hs hq _ _ hd _ | rdb hs hq _ hd _ | wrb hs hq _ _ hd _ =>
    obtain ⟨hlegal, hfields⟩ := decode_ok_cases hd
    exact .inr ⟨hs, hq, hlegal, by simp_all⟩
  all_goals left; simp

/-- RDATA is written by the last sample only, which sets RDATA_VALID (R26, R131). -/
theorem Moves.rdata_cases (hm : Moves inp s u) :
    (s.state = .rdSample ∧ s.idx = 7#4 ∧ u.rdataValid = true) ∨
    (s.state = .idle ∧ u.state = .dirIn ∧ u.op = 2#2 ∧ u.rdataValid = false ∧ u.rdata = s.rdata) ∨
    (u.rdata = s.rdata ∧ u.rdataValid = s.rdataValid) := by
  cases hm
  case sampleLast hs hk => exact .inl ⟨hs, hk, rfl⟩
  case rdb hs _ _ _ _ => exact .inr (.inl ⟨hs, rfl, rfl, rfl, rfl⟩)
  all_goals right; right; simp

/-- FAULT_CODE is written by fault entry only (R27, R152). -/
theorem Moves.faultCode_cases (hm : Moves inp s u) :
    u.faultCode = s.faultCode ∨
    (s.state = .idle ∧ u.state = .fault ∧
      (u.faultCode = 1#2 ∨ u.faultCode = 2#2 ∨ u.faultCode = 3#2)) := by
  cases hm
  case illegal hs _ _ _ => exact .inr ⟨hs, rfl, .inl rfl⟩
  case readRange hs _ _ _ _ => exact .inr ⟨hs, rfl, .inr (.inl rfl)⟩
  case writeRange hs _ _ _ _ _ => exact .inr ⟨hs, rfl, .inr (.inl rfl)⟩
  case contention hs _ _ _ _ _ => exact .inr ⟨hs, rfl, .inr (.inr rfl)⟩
  all_goals left; simp

/-- DDIR is written by DIR_IN and DIR_OUT only (R30). -/
theorem Moves.ddir_cases (hm : Moves inp s u) :
    u.ddir = s.ddir ∨ (s.state = .dirIn ∧ u.ddir = .input) ∨ (s.state = .dirOut ∧ u.ddir = .output) := by
  cases hm
  case dirIn hs => exact .inr (.inl ⟨hs, rfl⟩)
  case dirOut hs => exact .inr (.inr ⟨hs, rfl⟩)
  all_goals left; simp

/-- DOUT is written in WR_DRIVE only (R31). -/
theorem Moves.dout_cases (hm : Moves inp s u) : u.dout = s.dout ∨ s.state = .wrDrive := by
  cases hm
  case driveOn hs _ | driveLast hs _ => exact .inr hs
  all_goals left; simp

/-- ACC is written in DIR_IN and RD_SAMPLE only (R32). -/
theorem Moves.acc_cases (hm : Moves inp s u) :
    u.acc = s.acc ∨ s.state = .dirIn ∨ s.state = .rdSample := by
  cases hm
  case dirIn hs => exact .inr (.inl hs)
  case sampleOn hs _ | sampleLast hs _ => exact .inr (.inr hs)
  all_goals left; simp

end

end Machine

end Sys2Proof
end

section
/-! Who writes what (R24, R26, R27, R30 to R32, R39, R40): the moves' writers, lifted to whole steps. -/

namespace Sys2Proof.Machine

/-- Settles O37: the only move that writes OP, ADDR, OE or DATA is the capture of a legal word, and neither a reset
nor the end of a tick does. -/
theorem requestRegistersAreWrittenOnlyAtAcceptance :
    Obligations.RequestRegistersAreWrittenOnlyAtAcceptance := by
  intro s t h
  obtain ⟨-, ⟨-, rfl⟩ | ⟨-, -, rfl⟩ | ⟨hr, -, u, hm, rfl⟩⟩ := step_moves h
  · left; simp
  · left; simp
  · rcases hm.request_registers with hkeep | ⟨hs, hq, hl, ho, ha, he, hv⟩
    · left; simpa using hkeep
    · exact .inr ⟨hs, hr, hq, hl, (endTick_op ..).trans ho, (endTick_addr ..).trans ha,
        (endTick_oe ..).trans he, (endTick_data ..).trans hv⟩

/-- Settles O38, by the three ways in which a move treats RDATA and RDATA_VALID. -/
theorem resultIsWrittenOnlyByTheLastSample : Obligations.ResultIsWrittenOnlyByTheLastSample := by
  intro s t h
  obtain ⟨-, ⟨hr, rfl⟩ | ⟨-, -, rfl⟩ | ⟨hr, -, u, hm, rfl⟩⟩ := step_moves h
  · simp [hr]
  · simp_all
  · rcases hm.rdata_cases with ⟨hs, hk, hv⟩ | ⟨hs, hu, ho, hv, hd⟩ | ⟨hd, hv⟩ <;> simp_all

/-- Settles O39: a move that writes FAULT_CODE is a fault entry from IDLE; reset clears it. -/
theorem faultCodeIsWrittenOnlyByFaultAndReset : Obligations.FaultCodeIsWrittenOnlyByFaultAndReset := by
  intro s t h hne
  obtain ⟨-, ⟨hr, rfl⟩ | ⟨-, -, rfl⟩ | ⟨hr, -, u, hm, rfl⟩⟩ := step_moves h
  · exact .inl ⟨hr, by simp⟩
  · exact absurd rfl hne
  · rcases hm.faultCode_cases with hkeep | hentry
    · exact absurd (by simpa using hkeep) hne
    · right; simpa using hentry

/-- Settles O40, register by register. -/
theorem dataPathIsWrittenOnlyInItsStates : Obligations.DataPathIsWrittenOnlyInItsStates := by
  intro s t h
  obtain ⟨-, ⟨hr, rfl⟩ | ⟨-, -, rfl⟩ | ⟨hr, -, u, hm, rfl⟩⟩ := step_moves h
  · simp [hr]
  · simp
  · refine ⟨fun hne => ?_, fun hne => ⟨?_, hr⟩, fun hne => ⟨?_, hr⟩⟩
    · rcases hm.ddir_cases with hkeep | hin | hout
      · exact absurd (by simpa using hkeep) hne
      · left; simpa using hin
      · right; left; simpa using hout
    · exact hm.dout_cases.resolve_left (by simpa using hne)
    · exact hm.acc_cases.resolve_left (by simpa using hne)

/-- Settles O41: a reset appends its WeRise, a move its own events, and the end of a tick its Contend. -/
theorem configurationIsFixedAndTraceGrows : Obligations.ConfigurationIsFixedAndTraceGrows := by
  intro s t h
  obtain ⟨-, ⟨-, rfl⟩ | ⟨-, -, rfl⟩ | ⟨-, -, u, hm, rfl⟩⟩ := step_moves h
  · exact ⟨by simp, _, resetWholeTick_trace s⟩
  · exact ⟨rfl, [], (List.append_nil _).symm⟩
  · obtain ⟨es, hes, -⟩ := hm.trace_grows
    exact ⟨by simpa using hm.cfg_eq, es ++ if u.contending then [.contend] else [], by
      rw [endTick_trace, hes, List.append_assoc]; rfl⟩

end Sys2Proof.Machine
end

section
/-! What the state shows to the caller and to the device: the status outputs (R35), the reset values (R43), the cell
that the device drives (R29, R55) and the sample that the controller takes of it (R131). -/

namespace Sys2Proof

/-- MAX_ADDR is one less than a power of two, so the mask of R29 is a remainder (R5). -/
theorem Variant.and_maxAddr (v : Variant) (n : Nat) :
    n &&& v.maxAddr.toNat = n % (v.maxAddr.toNat + 1) := by
  cases v
  · exact Nat.and_two_pow_sub_one_eq_mod n 13
  · exact Nat.and_two_pow_sub_one_eq_mod n 15

/-- Neither variant uses bit 15 of an address (R5). -/
theorem Variant.maxAddr_lt (v : Variant) : v.maxAddr.toNat < 2 ^ 15 := by
  cases v <;> decide

/-- An address that the variant has leaves bit 15 clear (R5). -/
theorem Config.getLsbD_15_of_in_range {c : Config} {a : Half} (ha : a ≤ c.maxAddr) : a.getLsbD 15 = false := by
  have hle : a.toNat ≤ c.variant.maxAddr.toNat := ha
  exact Nat.testBit_lt_two_pow (Nat.lt_of_le_of_lt hle c.variant.maxAddr_lt)

namespace Machine

/-- Bits 14 to 0 of a pair of frames are the address's own (R76). -/
theorem extractLsb'_frames (a : Half) (e : Bool) :
    (frames a e).extractLsb' 0 15 = a.extractLsb' 0 15 := by
  refine BitVec.eq_of_getLsbD_eq fun i hi => ?_
  rw [BitVec.getLsbD_extractLsb', BitVec.getLsbD_extractLsb', getLsbD_frames, if_neg (by omega)]

/-- OE_n is bit 15 of the frames: the address's own, or the output enable inverted (R76, R108). -/
theorem oeN_of_frames {s : State} {a : Half} {e : Bool} (ho : s.out = frames a e) :
    s.oeN = (a.getLsbD 15 || !e) := by
  rw [State.oeN, ho, getLsbD_frames, if_pos rfl]

/-- While OUT holds the frames of an address, the device sees that address modulo its capacity (R29). -/
theorem devAddr_of_frames {s : State} {a : Half} {e : Bool} (ho : s.out = frames a e) :
    s.devAddr.toNat = a.toNat % (s.cfg.maxAddr.toNat + 1) := by
  have hmax := s.cfg.variant.maxAddr_lt
  have hdvd : s.cfg.variant.maxAddr.toNat + 1 ∣ 2 ^ 15 := by
    cases s.cfg.variant <;> decide
  rw [State.devAddr, ho, extractLsb'_frames, BitVec.toNat_and, BitVec.extractLsb'_toNat,
    BitVec.toNat_setWidth, Config.maxAddr, Nat.mod_eq_of_lt hmax, Variant.and_maxAddr,
    Nat.shiftRight_zero, Nat.mod_mod_of_dvd _ hdvd]

/-- An address that the variant has is the device's own (R29). -/
theorem devAddr_of_frames_in_range {s : State} {a : Half} {e : Bool} (ho : s.out = frames a e)
    (ha : a ≤ s.cfg.maxAddr) : s.devAddr.toNat = a.toNat := by
  have : a.toNat ≤ s.cfg.maxAddr.toNat := ha
  rw [devAddr_of_frames ho, Nat.mod_eq_of_lt (by omega)]

/-- A disabled device drives nothing (R112). -/
theorem deviceDrives_disabled {s : State} (h : s.oeN = true) : s.deviceDrives = none := by
  simp [State.deviceDrives, h]

/-- An enabled device with nothing pending drives the selected cell (R55). -/
theorem deviceDrives_enabled {s : State} (h : s.oeN = false) (hp : s.pending = none) :
    s.deviceDrives = some s.cell := by
  simp [State.deviceDrives, h, hp]

/-- Settles O7, from what the frames say of the address lines and of OE_n. -/
theorem deviceDrivesTheLatchedCell : Obligations.DeviceDrivesTheLatchedCell := by
  intro s a e ho
  have hoe := oeN_of_frames ho
  refine ⟨devAddr_of_frames ho, fun he ha hp => ?_, fun hoff => deviceDrives_disabled ?_⟩
  · rw [deviceDrives_enabled (by rw [hoe, he, ha]; rfl) hp, State.cell, devAddr_of_frames ho]
  · rcases hoff with he | ha
    · rw [hoe, he, Bool.not_false, Bool.or_true]
    · rw [hoe, ha, Bool.true_or]

/-- D_IN over a bus that the device drives alone, with nothing pending, is the selected cell (R34). -/
theorem dIn_driven {s : State} (hd : s.ddir = .input) (ho : s.oeN = false) (hp : s.pending = none) :
    s.dIn = s.mem.read s.devAddr.toNat := by
  simp [State.dIn, State.busDefined, State.cell, hd, ho, hp]

/-- The byte of a sample is D_IN once the access time has passed (R123, log 14). -/
theorem sampleByte_accessed {s : State} {i : Nat} (h : s.cfg.accessTicks ≤ s.cfg.pReadSetupTicks + i) :
    s.sampleByte i = s.dIn := by
  simp [State.sampleByte, State.accessDone, h]

/-- The byte of a sample is free when the bus is not the device's alone, a write is pending or the access time has
not passed (R34, R123). -/
theorem sampleByte_free {s : State} {i : Nat}
    (h : ¬ (s.ddir = .input ∧ s.oeN = false ∧ s.pending = none ∧
      s.cfg.accessTicks ≤ s.cfg.pReadSetupTicks + i)) :
    s.sampleByte i = Config.drawBus s.ticks := by
  unfold State.sampleByte State.accessDone State.dIn State.busDefined
  split
  · next ha =>
    refine if_neg fun hb => h ?_
    simp_all
  · rfl

/-- Settles O27: the tick takes one bit of the sample's byte, and IDX tells the last sample from the others. -/
theorem sampleTickReadsOneDataLine : Obligations.SampleTickReadsOneDataLine := by
  intro s hv hr hd hs hk driven
  refine ⟨s.sampleByte s.idx.toNat, fun ⟨hdir, hoe, hp, ha⟩ => ?_, sampleByte_free, ?_⟩
  · rw [sampleByte_accessed ha, dIn_driven hdir hoe hp]
  · have hown : ownAction s.takeInput = rdSampleTick s.takeInput := by
      simp [ownAction, hs]
    refine step_own hv hr hd (by simp [hs]) (hown.trans ?_)
    rcases Nat.lt_or_eq_of_le hk with hlt | h7
    · rw [rdSampleTick_on (s := s.takeInput) hlt, if_neg (Nat.ne_of_lt hlt)]
      rfl
    · rw [rdSampleTick_last (s := s.takeInput) (BitVec.eq_of_toNat_eq h7), if_pos h7, h7]
      rfl

/-- Settles O13, from the definitions of the outputs. -/
theorem statusOutputsFollowTheState : Obligations.StatusOutputsFollowTheState := by
  intro s
  refine ⟨?_, ?_, ?_, ?_, rfl, rfl, fun hvalid => ?_⟩
  · simp [State.ready]
  · simp [State.busy]
  · simp [State.isDone]
  · simp [State.isFault]
  · simp [State.rdataOut, State.rdataValue, hvalid]

/-- Settles O42, field by field. -/
theorem resetValuesAreThoseOfTheSpec : Obligations.ResetValuesAreThoseOfTheSpec :=
  ⟨rfl, rfl, rfl, rfl, rfl, rfl, rfl, rfl, rfl, rfl, rfl, rfl⟩

end Machine

end Sys2Proof
end

section
/-! The sequencer's half of the invariant: the parts of `State.Inv` that speak of registers and lines only. Each is
kept by every move of the sequencer, and the end of a tick does not touch it. -/

namespace Sys2Proof.Machine

/-! ### Bits shifted, counted and driven -/

/-- The output enable in use, by OP (R102): a SET_ADDRESS sends its own, a READ_BYTE 1 and a WRITE_BYTE 0. -/
theorem oeUsed_set {s : State} (h : s.op = 1#2) : s.oeUsed = s.oe := by simp [State.oeUsed, h]

theorem oeUsed_read {s : State} (h : s.op = 2#2) : s.oeUsed = true := by simp [State.oeUsed, h]

theorem oeUsed_write {s : State} (h : s.op = 3#2) : s.oeUsed = false := by simp [State.oeUsed, h]

/-- Both sides drive exactly when the frames in OUT would contend (R157, R181). -/
theorem contending_eq_wouldContend (s : State) : s.contending = wouldContend s.out s :=
  Bool.and_comm ..

/-- Frames of a disabled device never contend (R181). -/
theorem wouldContend_disabled (a : Half) (s : State) : wouldContend (frames a false) s = false := by
  simp [wouldContend, getLsbD_frames]

/-- IDX goes up by 1 where it is below its last step (R22). -/
theorem toNat_idx_succ {i : BitVec 4} {n : Nat} (hi : i.toNat < n) (hn : n ≤ 15) :
    (i + 1#4).toNat = i.toNat + 1 := by
  rw [BitVec.toNat_add, BitVec.toNat_ofNat]
  omega

/-- A timer with ticks left that is not at its last one goes down by 1 (R121). -/
theorem toNat_timer_pred {t : BitVec 32} (hpos : 1 ≤ t.toNat) (h : t ≠ 1#32) :
    1 ≤ (t - 1#32).toNat ∧ (t - 1#32).toNat + 1 = t.toNat := by
  have h1 : t.toNat ≠ 1 := fun hc => h (BitVec.eq_of_toNat_eq hc)
  bv_omega

/-- A timer counts down within its range, for its last tick leaves the state instead (R121). -/
theorem timer_pred_in_range {t : BitVec 32} {n : Nat} (h : 1 ≤ t.toNat ∧ t.toNat ≤ n) (hne : t ≠ 1#32) :
    1 ≤ (t - 1#32).toNat ∧ (t - 1#32).toNat ≤ n := by
  have hpred := toNat_timer_pred h.1 hne
  omega

/-- A timer takes a count that fits its 32 bits as it is (R23). -/
theorem timer_load_in_range {n : Nat} (hpos : 1 ≤ n) (h32 : n < 2 ^ 32) :
    1 ≤ (BitVec.ofNat 32 n).toNat ∧ (BitVec.ofNat 32 n).toNat ≤ n := by
  rw [BitVec.toNat_ofNat, Nat.mod_eq_of_lt h32]
  exact ⟨hpos, Nat.le_refl n⟩

/-- The shift register has taken the first `n` bits of the message `f`, the last one at bit 0 (R28, R103). -/
def Shifted (f sr : Half) (n : Nat) : Prop := ∀ j, j < n → sr.getLsbD (n - 1 - j) = frameBit f j

/-- One more SRCLK pulse shifts the next bit in (R28, R103). -/
theorem Shifted.shiftIn16 {f sr : Half} {n : Nat} (h : Shifted f sr n) (hn : n < 16) :
    Shifted f (shiftIn16 sr (frameBit f n)) (n + 1) := by
  intro j hj
  rw [getLsbD_shiftIn16]
  rcases Nat.lt_succ_iff_lt_or_eq.mp hj with hlt | rfl
  · rw [if_neg (by omega), decide_eq_true (by omega), Bool.true_and, ← h j hlt]
    congr 1
    omega
  · rw [if_pos (by omega)]

/-- After sixteen pulses the register holds the message (R105). -/
theorem Shifted.eq_of_all {f sr : Half} (h : Shifted f sr 16) : sr = f := by
  refine BitVec.eq_of_getLsbD_eq fun i hi => ?_
  have hbit := h (15 - i) (by omega)
  rwa [frameBit, show 15 - (15 - i) = i by omega] at hbit

/-- DOUT holds the first `n` bits of the byte `v` (R136). -/
def Driven (v dout : Byte) (n : Nat) : Prop := ∀ j, j < n → dout.getLsbD j = v.getLsbD j

/-- One more drive step sets the next bit (R136). -/
theorem Driven.setBit8 {v dout : Byte} {n : Nat} (h : Driven v dout n) (hn : n < 8) :
    Driven v (setBit8 dout n (v.getLsbD n)) (n + 1) := by
  intro j hj
  rw [getLsbD_setBit8 _ _ (by omega)]
  split
  · next he => rw [he]
  · exact h j (by omega)

/-- After eight drive steps DOUT is the byte (R136). -/
theorem Driven.eq_of_all {v dout : Byte} (h : Driven v dout 8) : dout = v :=
  BitVec.eq_of_getLsbD_eq h

/-! ### Each part over a move -/

section
variable {inp : Input} {s u : State}

/-- WE_n falls in the last drive, which enters WR_WE_LOW, and rises in the last tick of that state; every pulse of
SRCLK and RCLK ends within its tick. -/
theorem Moves.linesOk (hm : Moves inp s u) (h : s.linesOk) : u.linesOk := by
  obtain ⟨hsrclk, hrclk, hwe⟩ := h
  cases hm
  case driveLast => exact ⟨hsrclk, hrclk, by simp⟩
  case lowLast => exact ⟨by simpa using hsrclk, by simpa using hrclk, by simp⟩
  all_goals simp_all [State.linesOk]

/-- IDX counts up to the last step of its state, which clears it. -/
theorem Moves.idxOk (hm : Moves inp s u) (h : s.idxOk = true) : u.idxOk = true := by
  cases hm
  case sampleOn hs hk | driveOn hs hk =>
    have := toNat_idx_succ hk (by decide)
    simp only [State.idxOk, takeSample_eq, driveBit_eq, hs, decide_eq_true_eq]
    omega
  all_goals simp_all [State.idxOk]

/-- A request enters its own states only, by OP at acceptance and in LATCH. -/
theorem Moves.opOk (hm : Moves inp s u) (h : s.opOk = true) : u.opOk = true := by
  cases hm
  case latchSet hs ho | latchRead hs ho _ | latchWait hs ho _ | latchWrite hs ho =>
    simp [State.opOk, ho]
  all_goals simp_all [State.opOk]

/-- The acceptance of a READ_BYTE or a WRITE_BYTE has checked the address that it captures. -/
theorem Moves.rangeOk (hm : Moves inp s u) (h : s.rangeOk) : u.rangeOk := by
  cases hm
  case rdb _ _ _ _ hc | wrb _ _ _ _ _ hc => exact fun _ _ => hc
  all_goals simp_all [State.rangeOk]

/-- F is written with the frames of the request on the way into SHIFT, and of ADDR, OP and OE none changes before
LATCH is over. -/
theorem Moves.frameOk (hm : Moves inp s u) (hop : s.opOk = true) (h : s.frameOk) : u.frameOk := by
  cases hm
  case setaddr => simp [State.frameOk, State.oeUsed]
  case dirIn hs =>
    have ho : s.op = 2#2 := by simpa [State.opOk, hs] using hop
    simp [State.frameOk, State.oeUsed, ho]
  case dirOut hs =>
    have ho : s.op = 3#2 := by simpa [State.opOk, hs] using hop
    simp [State.frameOk, State.oeUsed, ho]
  all_goals simp_all [State.frameOk, State.oeUsed]

/-- Each SHIFT tick shifts the next bit in; the last one leaves the whole message. -/
theorem Moves.chainOk (hm : Moves inp s u) (h : s.chainOk) : u.chainOk := by
  obtain ⟨hshift, hlatch⟩ := h
  cases hm
  case shiftOn hs hk =>
    have hnext := Shifted.shiftIn16 (hshift hs) (by omega)
    rw [← toNat_idx_succ hk (Nat.le_refl 15)] at hnext
    simp only [State.chainOk, shiftBit_eq, hs]
    exact ⟨fun _ => hnext, nofun⟩
  case shiftLast hs hk =>
    have hbits : Shifted s.frame s.sr s.idx.toNat := hshift hs
    rw [hk] at hbits
    simp only [State.chainOk, shiftBit_eq]
    exact ⟨nofun, fun _ => (hbits.shiftIn16 (by decide)).eq_of_all⟩
  all_goals simp_all [State.chainOk]

/-- In LATCH the shift register holds the frames of the request (R105). -/
theorem sr_of_latch (hf : s.frameOk) (hc : s.chainOk) (hs : s.state = .latch) :
    s.sr = frames s.addr s.oeUsed :=
  (hc.2 hs).trans (hf (.inr hs))

/-- LATCH copies the frames of the request to OUT, and nothing later writes OUT, ADDR, OP or OE before IDLE. -/
theorem Moves.latchedOk (hm : Moves inp s u) (hf : s.frameOk) (hc : s.chainOk) (h : s.latchedOk) :
    u.latchedOk := by
  cases hm
  case latchSet hs _ | latchRead hs _ _ | latchWait hs _ _ | latchWrite hs _ =>
    exact fun _ => sr_of_latch hf hc hs
  all_goals simp_all [State.latchedOk, State.oeUsed]

/-- DIR_IN and DIR_OUT turn the bus as their request needs it, and the acceptance of a SET_ADDRESS has checked it. -/
theorem Moves.dirOk (hm : Moves inp s u) (hop : s.opOk = true) (h : s.dirOk) : u.dirOk := by
  cases hm
  case setaddr _ _ _ _ _ hc => exact fun _ => ⟨by simp, by simp, fun _ => hc⟩
  case dirIn hs =>
    have ho : s.op = 2#2 := by simpa [State.opOk, hs] using hop
    simp [State.dirOk, ho]
  case dirOut hs =>
    have ho : s.op = 3#2 := by simpa [State.opOk, hs] using hop
    simp [State.dirOk, ho]
  all_goals simp_all [State.dirOk, wouldContend]

/-- What LATCH puts on OUT does not contend, for any kind of request (R157, R181). -/
theorem latch_not_contending (hs : s.state = .latch) (hop : s.opOk = true) (hf : s.frameOk)
    (hc : s.chainOk) (hd : s.dirOk) : wouldContend s.sr s = false := by
  obtain ⟨hread, -, hset⟩ := hd ⟨by simp [hs], by simp [hs]⟩
  have hne : s.op ≠ 0#2 := by simpa [State.opOk, hs] using hop
  have hop4 : s.op = 0#2 ∨ s.op = 1#2 ∨ s.op = 2#2 ∨ s.op = 3#2 := by
    generalize s.op = o
    revert o
    decide
  rw [sr_of_latch hf hc hs]
  rcases hop4 with ho | ho | ho | ho
  · exact absurd ho hne
  · rw [oeUsed_set ho]; exact hset ho
  · simp [wouldContend, hread ho (by simp [hs])]
  · rw [oeUsed_write ho]; exact wouldContend_disabled ..

/-- Only DIR_OUT makes both sides drive, and LATCH ends it. -/
theorem Moves.overlapOk (hm : Moves inp s u) (hop : s.opOk = true) (hf : s.frameOk) (hc : s.chainOk)
    (hd : s.dirOk) (h : s.overlapOk) : u.overlapOk := by
  cases hm
  case dirIn => simp [State.overlapOk, State.contending]
  case dirOut hs =>
    have ho : s.op = 3#2 := by simpa [State.opOk, hs] using hop
    exact fun _ => ⟨.inl rfl, ho⟩
  case latchSet hs _ | latchRead hs _ _ | latchWait hs _ _ | latchWrite hs _ =>
    intro hcon
    have hoff := latch_not_contending hs hop hf hc hd
    rw [contending_eq_wouldContend] at hcon
    exact absurd (hoff.symm.trans hcon) (by decide)
  all_goals simp_all [State.overlapOk, State.contending, State.oeN]

/-- A timer is loaded with the count of the state entered, which fits its 32 bits (R23), and counts down to 1. -/
theorem Moves.timerOk (hm : Moves inp s u) (hv : s.cfg.valid = true) (h : s.timerOk) : u.timerOk := by
  obtain ⟨-, hwe, hsettle, -, -, hwe32, hsettle32, hread32⟩ := s.cfg.valid_iff.mp hv
  obtain ⟨hw, hl, hst⟩ := h
  cases hm
  case waitOn hs ht => exact ⟨fun _ => timer_pred_in_range (hw hs) ht, by simp [hs], by simp [hs]⟩
  case lowOn hs ht => exact ⟨by simp [hs], fun _ => timer_pred_in_range (hl hs) ht, by simp [hs]⟩
  case settleOn hs ht => exact ⟨by simp [hs], by simp [hs], fun _ => timer_pred_in_range (hst hs) ht⟩
  case latchWait hz => exact ⟨fun _ => timer_load_in_range (Nat.pos_of_ne_zero hz) hread32, nofun, nofun⟩
  case driveLast => exact ⟨nofun, fun _ => timer_load_in_range hwe hwe32, nofun⟩
  case lowLast =>
    have hload := timer_load_in_range hsettle hsettle32
    exact ⟨by simp, by simp, fun _ => by simpa using hload⟩
  all_goals simp_all [State.timerOk]

/-- A fault entry writes a nonzero FAULT_CODE and FAULT together. -/
theorem Moves.faultOk (hm : Moves inp s u) (h : s.faultOk) : u.faultOk := by
  cases hm
  case illegal | contention | readRange | writeRange =>
    simp [State.faultOk, illegalRequest, addrRange, busContention]
  all_goals simp_all [State.faultOk]

/-- Each WR_DRIVE tick sets the next bit; the last one leaves all of DATA, and nothing writes DOUT or DATA before
IDLE. -/
theorem Moves.doutOk (hm : Moves inp s u) (hop : s.opOk = true) (h : s.doutOk) : u.doutOk := by
  obtain ⟨hdrive, hdone⟩ := h
  cases hm
  case driveOn hs hk =>
    have hnext := Driven.setBit8 (hdrive hs) (by omega)
    rw [← toNat_idx_succ hk (by decide)] at hnext
    simp only [State.doutOk, driveBit_eq, hs]
    exact ⟨fun _ => hnext, by simp⟩
  case driveLast hs hk =>
    have hbits : Driven s.data s.dout s.idx.toNat := hdrive hs
    rw [hk] at hbits
    simp only [State.doutOk, driveBit_eq, finishDrive_eq]
    exact ⟨nofun, fun _ => (hbits.setBit8 (by decide)).eq_of_all⟩
  all_goals simp_all [State.doutOk, State.opOk]

/-- A READ_BYTE clears RDATA_VALID at acceptance, and its last sample sets it on the way to DONE. -/
theorem Moves.validOk (hm : Moves inp s u) (hop : s.opOk = true) (h : s.validOk) : u.validOk := by
  cases hm
  case rdb => exact fun _ _ => iff_of_false (by simp) (by simp)
  case sampleLast => exact fun _ _ => iff_of_true rfl rfl
  all_goals simp_all [State.validOk, State.opOk]

end

/-! ### The parts together -/

/-- The parts of `State.Inv` that speak of the sequencer's registers and lines only. -/
structure State.SequencerOk (s : State) : Prop where
  lines : s.linesOk
  idx : s.idxOk = true
  op : s.opOk = true
  range : s.rangeOk
  frame : s.frameOk
  chain : s.chainOk
  latched : s.latchedOk
  dir : s.dirOk
  overlap : s.overlapOk
  timer : s.timerOk
  fault : s.faultOk
  dout : s.doutOk
  valid : s.validOk

/-- The parts of `State.Inv` that speak of the device. -/
structure State.DeviceOk (s : State) : Prop where
  settle : s.settleOk
  stuck : s.stuckOk
  mem : s.memOk

theorem inv_iff {s : State} : s.Inv ↔ s.SequencerOk ∧ s.DeviceOk := by
  constructor
  · rintro ⟨hl, hi, ho, hr, hf, hc, hla, hd, hov, ht, hfa, hdo, hv, hse, hst, hme⟩
    exact ⟨⟨hl, hi, ho, hr, hf, hc, hla, hd, hov, ht, hfa, hdo, hv⟩, ⟨hse, hst, hme⟩⟩
  · rintro ⟨⟨hl, hi, ho, hr, hf, hc, hla, hd, hov, ht, hfa, hdo, hv⟩, ⟨hse, hst, hme⟩⟩
    exact ⟨hl, hi, ho, hr, hf, hc, hla, hd, hov, ht, hfa, hdo, hv, hse, hst, hme⟩

/-- A move keeps the sequencer's half. -/
theorem State.SequencerOk.moves {inp : Input} {s u : State} (h : s.SequencerOk) (hv : s.cfg.valid = true)
    (hm : Moves inp s u) : u.SequencerOk where
  lines := hm.linesOk h.lines
  idx := hm.idxOk h.idx
  op := hm.opOk h.op
  range := hm.rangeOk h.range
  frame := hm.frameOk h.op h.frame
  chain := hm.chainOk h.chain
  latched := hm.latchedOk h.frame h.chain h.latched
  dir := hm.dirOk h.op h.dir
  overlap := hm.overlapOk h.op h.frame h.chain h.dir h.overlap
  timer := hm.timerOk hv h.timer
  fault := hm.faultOk h.fault
  dout := hm.doutOk h.op h.dout
  valid := hm.validOk h.op h.valid

/-- The end of a tick leaves the sequencer's half alone. -/
theorem State.SequencerOk.endTick {s : State} (h : s.SequencerOk) (p : Option PendingWrite) :
    (endTick p s).SequencerOk := by
  rw [endTick_eq]
  exact ⟨h.lines, h.idx, h.op, h.range, h.frame, h.chain, h.latched, h.dir, h.overlap, h.timer, h.fault,
    h.dout, h.valid⟩

/-- The sequencer at rest, as a reset leaves it, whatever the registers hold that a reset does not write (R170). -/
theorem State.SequencerOk.of_rest {s : State} (hs : s.state = .idle) (hi : s.idx = 0#4)
    (hd : s.ddir = .input) (hw : s.weN = true) (hsc : s.srclk = false) (hrc : s.rclk = false)
    (hf : s.faultCode = 0#2) : s.SequencerOk := by
  constructor <;>
    simp [State.linesOk, State.idxOk, State.opOk, State.rangeOk, State.frameOk, State.chainOk,
      State.latchedOk, State.dirOk, State.overlapOk, State.contending, State.timerOk, State.faultOk,
      State.doutOk, State.validOk, hs, hi, hd, hw, hsc, hrc, hf]

end Sys2Proof.Machine
end

section
/-! The device's half of the invariant: what a write edge, the countdown and a reset keep of it. -/

namespace Sys2Proof.Machine

/-- The device sees no address above MAX_ADDR (R29). -/
theorem devAddr_le_maxAddr (s : State) : s.devAddr.toNat ≤ s.cfg.maxAddr.toNat := by
  rw [State.devAddr, BitVec.toNat_and, BitVec.toNat_setWidth]
  exact Nat.le_trans Nat.and_le_right (Nat.mod_le _ _)

theorem settle_of_none (s : State) {p : Option PendingWrite} (hp : p = none) : s.settle p = s := by
  rw [hp, settle_none]

/-- What is pending after the countdown was pending before it with more than a tick to go (R57). -/
theorem pending_of_settle {s : State} {p : Option PendingWrite} (hd : s.deviceStuck = false)
    (hp : s.pending = p) {q : PendingWrite} (hq : q ∈ (s.settle p).pending) :
    ∃ p' ∈ p, s.cfg.pTick < p'.remaining ∧ q = { p' with remaining := p'.remaining - s.cfg.pTick } := by
  subst hp
  cases hp : s.pending with
  | none => simp [hp] at hq
  | some p' =>
    rw [hp] at hq
    rcases settle_some s p' with ⟨hstuck, -⟩ | ⟨-, -, he⟩ | ⟨-, hlt, he⟩
    · simp [hd] at hstuck
    · simp [he, State.commit] at hq
    · rw [he] at hq
      exact ⟨p', rfl, hlt, (Option.mem_some.mp hq).symm⟩

/-! ### The write edge and the countdown keep what they can reach -/

theorem State.stuckOk.capture {s : State} (h : s.stuckOk) (v : Byte) : (s.capture v).stuckOk := by
  rcases capture_cases s v with ⟨-, he⟩ | ⟨-, hp, he⟩ | ⟨hd, -, he⟩
  · rwa [he]
  · rw [he]; exact fun _ => hp
  · rw [he]; exact fun _ => by simp

/-- A captured write is to a cell that exists and has the whole settle time to go (R37, R56). -/
theorem State.memOk.capture {s : State} (h : s.memOk) (v : Byte) : (s.capture v).memOk := by
  obtain ⟨hwf, hpend⟩ := h
  rcases capture_cases s v with ⟨-, he⟩ | ⟨-, -, he⟩ | ⟨-, -, he⟩
  · rw [he]; exact ⟨hwf, hpend⟩
  · rw [he]; exact ⟨hwf, hpend⟩
  · rw [he]
    refine ⟨hwf, fun p hp => ?_⟩
    obtain rfl := Option.mem_some.mp hp
    exact ⟨devAddr_le_maxAddr s, Nat.succ_pos _, Nat.le_refl _⟩

theorem State.stuckOk.settle {s : State} (h : s.stuckOk) (p : Option PendingWrite) :
    (s.settle p).stuckOk := by
  cases p with
  | none => exact h
  | some p =>
    rcases settle_some s p with ⟨-, he⟩ | ⟨hd, -⟩ | ⟨hd, -⟩
    · rwa [he]
    · exact fun hstuck => by simp [hd] at hstuck
    · exact fun hstuck => by simp [hd] at hstuck

/-- The countdown of a write to a cell that exists commits it there, or leaves it less time to go (R57). -/
theorem State.memOk.settle {s : State} (h : s.memOk) {p : Option PendingWrite}
    (hp : ∀ q ∈ p, q.addr.toNat ≤ s.cfg.maxAddr.toNat ∧ 0 < q.remaining ∧ q.remaining ≤ devSettleNs) :
    (s.settle p).memOk := by
  obtain ⟨hwf, hpend⟩ := h
  cases p with
  | none => exact ⟨hwf, hpend⟩
  | some p =>
    obtain ⟨haddr, hpos, hle⟩ := hp p rfl
    rcases settle_some s p with ⟨-, he⟩ | ⟨-, -, he⟩ | ⟨-, hlt, he⟩
    · rw [he]; exact ⟨hwf, hpend⟩
    · rw [he]; exact ⟨wf_write hwf _ haddr, nofun⟩
    · rw [he]
      refine ⟨hwf, fun q hq => ?_⟩
      obtain rfl := Option.mem_some.mp hq
      exact ⟨haddr, Nat.sub_pos_of_lt hlt, Nat.le_trans (Nat.sub_le ..) hle⟩

/-! ### The exit of WR_WE_LOW is a write edge (R137) -/

theorem State.stuckOk.weLowExit {s : State} (h : s.stuckOk) : (weLowExit s).stuckOk := by
  obtain ⟨v, hv⟩ := memWrite_captures (s.emit .weRise)
  have hedge := State.stuckOk.capture (s := s.emit .weRise) h v
  rw [weLowExit_eq, hv]
  exact hedge

theorem State.memOk.weLowExit {s : State} (h : s.memOk) : (weLowExit s).memOk := by
  obtain ⟨v, hv⟩ := memWrite_captures (s.emit .weRise)
  have hedge := State.memOk.capture (s := s.emit .weRise) h v
  rw [weLowExit_eq, hv]
  exact hedge

/-- While the controller alone drives a device with nothing pending, the edge captures DOUT at the device's address,
with the whole settle time to go (R56). -/
theorem weLowExit_driven {s : State} (hdir : s.ddir = .output) (hoe : s.oeN = true)
    (hd : s.deviceStuck = false) (hp : s.pending = none) :
    (weLowExit s).pending = some ⟨s.devAddr, s.dout, devSettleNs⟩ := by
  rw [weLowExit_eq, memWrite_driven (s.emit .weRise) hdir hoe,
    capture_quiet (s := s.emit .weRise) hd hp]
  rfl

/-- Over a pending write the edge leaves the device stuck (R57). -/
theorem weLowExit_over {s : State} (hp : s.pending ≠ none) : (weLowExit s).deviceStuck = true := by
  obtain ⟨v, hv⟩ := memWrite_captures (s.emit .weRise)
  rw [weLowExit_eq, hv, capture_over (s := s.emit .weRise) hp]

/-! ### The moves, and the end of their tick -/

section
variable {inp : Input} {s u : State}

/-- The device's state is written by one move only, the last tick of WR_WE_LOW (R56, R137). -/
theorem Moves.device_cases (hm : Moves inp s u) :
    (s.state = .wrWeLow ∧ u = weLowExit { s with timer := 0#32 }) ∨
    (u.mem = s.mem ∧ u.pending = s.pending ∧ u.deviceStuck = s.deviceStuck) := by
  cases hm
  case lowLast hs _ => exact .inl ⟨hs, rfl⟩
  all_goals right; simp

theorem Moves.stuckOk (hm : Moves inp s u) (h : s.stuckOk) : u.stuckOk := by
  rcases hm.device_cases with ⟨-, rfl⟩ | ⟨-, hp, hd⟩
  · exact State.stuckOk.weLowExit h
  · rwa [State.stuckOk, hp, hd]

theorem Moves.memOk (hm : Moves inp s u) (h : s.memOk) : u.memOk := by
  rcases hm.device_cases with ⟨-, rfl⟩ | ⟨hmem, hp, -⟩
  · exact State.memOk.weLowExit h
  · rwa [State.memOk, hmem, hp, hm.cfg_eq]

/-- In WR_WE_LOW the controller alone drives the data lines, with the byte of the request (R142). -/
theorem State.SequencerOk.drives_data (h : s.SequencerOk) (hs : s.state = .wrWeLow) :
    s.ddir = .output ∧ s.oeN = true ∧ s.dout = s.data := by
  have ho : s.op = 3#2 := by simpa [State.opOk, hs] using h.op
  have hout : s.out = frames s.addr s.oeUsed := h.latched (by simp [hs])
  obtain ⟨-, hdir, -⟩ := h.dir ⟨by simp [hs], by simp [hs]⟩
  refine ⟨hdir ho (by simp [hs]), ?_, h.dout.2 (.inl hs)⟩
  rw [oeN_of_frames hout, oeUsed_write ho, Bool.not_false, Bool.or_true]

/-- What `settleOk` says after the end of a tick, in terms of the state before it. -/
theorem settleOk_endTick_iff (p : Option PendingWrite) :
    (endTick p u).settleOk ↔
      (u.deviceStuck = false →
        (u.state = .wrSettle → ∀ q ∈ (u.settle p).pending,
          q.addr = u.devAddr ∧ q.value = u.data ∧ q.remaining ≤ u.timer.toNat * u.cfg.pTick) ∧
        (u.state = .done → u.op = 3#2 → (u.settle p).pending = none)) := by
  rw [endTick_eq]
  exact Iff.rfl

/-- WR_SETTLE begins with the whole settle time of the write just captured, which its count covers (R8), and each of
its ticks takes one from the count and one tick from the write; so nothing is left at DONE (R140). -/
theorem Moves.settleOk (hm : Moves inp s u) (hv : s.cfg.valid = true) (hd : s.deviceStuck = false)
    (hseq : s.SequencerOk) (h : s.settleOk) : (endTick s.pending u).settleOk := by
  obtain ⟨-, -, -, -, hcover, -, hsettle32, -⟩ := s.cfg.valid_iff.mp hv
  have hop := hseq.op
  rw [settleOk_endTick_iff]
  cases hm
  case lowLast hs ht =>
    intro hsteps
    refine ⟨fun _ q hq => ?_, by simp⟩
    obtain ⟨hdir, hoe, hdata⟩ := hseq.drives_data hs
    have hp : s.pending = none := by
      by_contra hp
      have hstuck := weLowExit_over (s := { s with timer := 0#32 }) hp
      exact absurd (hsteps.symm.trans hstuck) (by decide)
    rw [settle_of_none _ hp, weLowExit_driven (s := { s with timer := 0#32 }) hdir hoe hd hp] at hq
    obtain rfl := Option.mem_some.mp hq
    refine ⟨by simp [State.devAddr], by simpa using hdata, ?_⟩
    have hload : s.cfg.pSettleTicks % 4294967296 = s.cfg.pSettleTicks := Nat.mod_eq_of_lt hsettle32
    simpa [hload] using hcover
  case settleOn hs ht =>
    refine fun _ => ⟨fun _ q hq => ?_, by simp [hs]⟩
    obtain ⟨p, hp, hlt, rfl⟩ := pending_of_settle (s := { s with timer := s.timer - 1#32 }) hd rfl hq
    obtain ⟨haddr, hvalue, hrem⟩ := (h hd).1 hs p hp
    refine ⟨haddr, hvalue, Nat.sub_le_of_le_add ?_⟩
    rwa [← (toNat_timer_pred (hseq.timer.2.2 hs).1 ht).2, Nat.succ_mul] at hrem
  case settleLast hs ht =>
    refine fun _ => ⟨nofun, fun _ _ => Option.eq_none_iff_forall_not_mem.mpr fun q hq => ?_⟩
    obtain ⟨p, hp, hlt, -⟩ :=
      pending_of_settle (s := { s with timer := 0#32, state := .done }) hd rfl hq
    obtain ⟨-, -, hrem⟩ := (h hd).1 hs p hp
    rw [ht, BitVec.toNat_ofNat, Nat.mod_eq_of_lt (by decide), Nat.one_mul] at hrem
    exact Nat.not_lt_of_le hrem hlt
  all_goals simp_all [State.opOk]

/-- A move and the end of its tick keep the device's half. -/
theorem State.DeviceOk.moves (h : s.DeviceOk) (hseq : s.SequencerOk) (hv : s.cfg.valid = true)
    (hd : s.deviceStuck = false) (hm : Moves inp s u) : (endTick s.pending u).DeviceOk where
  settle := hm.settleOk hv hd hseq h.settle
  stuck := by simpa [State.stuckOk] using (hm.stuckOk h.stuck).settle s.pending
  mem := by
    have hpend := h.mem.2
    rw [← hm.cfg_eq] at hpend
    simpa [State.memOk] using (hm.memOk h.mem).settle hpend

end

/-! ### Reset and rest -/

/-- The write edge of a reset keeps the device's half as any other does (R170). -/
theorem State.DeviceOk.resetWriteEdge {s : State} (h : s.DeviceOk) :
    (resetWriteEdge s).stuckOk ∧ (resetWriteEdge s).memOk := by
  rcases resetWriteEdge_cases s with ⟨-, he⟩ | ⟨-, he⟩
  · rw [he]; exact ⟨h.stuck, h.mem⟩
  · rw [he]
    exact ⟨State.stuckOk.capture (s := s.emit .weRise) h.stuck _,
      State.memOk.capture (s := s.emit .weRise) h.mem _⟩

theorem State.DeviceOk.resetWholeTick {s : State} (h : s.DeviceOk) : (resetWholeTick s).DeviceOk := by
  have hin : s.takeInput.DeviceOk := ⟨h.settle, h.stuck, h.mem⟩
  obtain ⟨hstuck, hmem⟩ := hin.resetWriteEdge
  refine ⟨fun _ => by simp, ?_, ?_⟩
  · exact State.stuckOk.settle (s := resetTick s.takeInput) hstuck s.pending
  · exact State.memOk.settle (s := resetTick s.takeInput) hmem (by simpa [resetTick] using h.mem.2)

/-- A device with nothing pending, over cells in canonical form, with the sequencer in IDLE (R175). -/
theorem State.DeviceOk.of_quiet {s : State} (hs : s.state = .idle) (hp : s.pending = none)
    (hd : s.deviceStuck = false) (hm : Memory.wf s.cfg.maxAddr.toNat s.mem = true) : s.DeviceOk := by
  refine ⟨fun _ => ?_, ?_, hm, ?_⟩ <;> simp [hs, hp, hd]

end Sys2Proof.Machine
end

section
/-! The invariant holds at the start of a run, every step keeps it, and what it says of samples and of contention. -/

namespace Sys2Proof.Machine

/-- Settles O48: a reset puts the sequencer to rest, a stuck tick changes nothing, and a move with the end of its
tick keeps both halves. -/
theorem stepKeepsTheInvariant : Obligations.StepKeepsTheInvariant := by
  intro s t h hstep
  obtain ⟨hv, ⟨-, rfl⟩ | ⟨-, -, rfl⟩ | ⟨-, hd, u, hm, rfl⟩⟩ := step_moves hstep
  · obtain ⟨-, hdev⟩ := inv_iff.mp h
    exact inv_iff.mpr ⟨.of_rest (by simp) (by simp) (by simp) (by simp) (by simp) (by simp) (by simp),
      hdev.resetWholeTick⟩
  · exact h
  · have hin : s.takeInput.Inv := h
    obtain ⟨hseq, hdev⟩ := inv_iff.mp hin
    exact inv_iff.mpr ⟨(hseq.moves hv hm).endTick _, hdev.moves hseq hv hd hm⟩

/-- Settles O45: the registers that a power-up leaves free are none that the invariant speaks of in IDLE. -/
theorem powerUpMeetsTheLaunchPremise : Obligations.PowerUpMeetsTheLaunchPremise :=
  fun _ _ _ _ hwf => ⟨⟨rfl, rfl, rfl, rfl, rfl⟩,
    inv_iff.mpr ⟨.of_rest rfl rfl rfl rfl rfl rfl rfl, .of_quiet rfl rfl rfl hwf⟩, rfl, rfl, rfl⟩

/-- Settles O47: the reset state is at rest over a quiet device with no cell listed. -/
theorem resetMeetsTheInvariant : Obligations.ResetMeetsTheInvariant :=
  inv_iff.mpr ⟨.of_rest rfl rfl rfl rfl rfl rfl rfl, .of_quiet rfl rfl rfl rfl⟩

/-- Settles O51: in RD_SAMPLE the bus is released and OUT holds the frames of an address in range, so the device
drives the cell of ADDR. -/
theorem samplesSeeTheAddressedCell : Obligations.SamplesSeeTheAddressedCell := by
  intro s h hs hp
  obtain ⟨hseq, -⟩ := inv_iff.mp h
  have hflight : s.inFlight := ⟨by simp [hs], by simp [hs]⟩
  have ho : s.op = 2#2 := by simpa [State.opOk, hs] using hseq.op
  have hrange : s.addr ≤ s.cfg.maxAddr := hseq.range hflight (by simp [ho])
  have hout : s.out = frames s.addr s.oeUsed := hseq.latched (by simp [hs])
  have hdir : s.ddir = .input := (hseq.dir hflight).1 ho (by simp [hs])
  have hoe : s.oeN = false := by
    rw [oeN_of_frames hout, Config.getLsbD_15_of_in_range hrange, oeUsed_read ho]
    rfl
  have haddr : s.devAddr.toNat = s.addr.toNat := devAddr_of_frames_in_range hout hrange
  have hcell : s.dIn = s.mem.read s.addr.toNat := by rw [dIn_driven hdir hoe hp, haddr]
  exact ⟨hdir, hoe, haddr, hcell, fun ha => (sampleByte_accessed ha).trans hcell⟩

/-- A WRITE_BYTE comes to send its address from DIR_OUT or from an earlier SHIFT tick, with OUT as before (R103,
R135). -/
theorem Moves.into_write_message {inp : Input} {s u : State} (hm : Moves inp s u) (hop : s.opOk = true)
    (hu : u.state = .shift ∨ u.state = .latch) (ho : u.op = 3#2) :
    s.op = 3#2 ∧ (s.state = .dirOut ∨ s.state = .shift) ∧ u.out = s.out := by
  cases hm
  case dirOut hs => exact ⟨ho, .inl hs, rfl⟩
  case shiftOn hs _ | shiftLast hs _ => exact ⟨by simpa using ho, .inr hs, by simp⟩
  all_goals simp_all [State.opOk]

/-- The Contend events of a tick without RESET: one if both sides drive at its end, and none from the move (R120 step
4). -/
theorem Moves.count_contend {inp : Input} {s u : State} (hm : Moves inp s u) (p : Option PendingWrite) :
    (endTick p u).trace.count .contend =
      s.trace.count .contend + if u.contending then 1 else 0 := by
  obtain ⟨es, hes, hnot⟩ := hm.trace_grows
  rw [endTick_trace, hes, List.count_append, List.count_append, List.count_eq_zero_of_not_mem hnot,
    Nat.add_zero]
  split <;> rfl

/-- Settles O50: by the invariant both sides drive only while a WRITE_BYTE sends its address, and OUT is then still
what it was before the tick. -/
theorem contentionOnlyAtAReadToWriteTurn : Obligations.ContentionOnlyAtAReadToWriteTurn := by
  intro s t h hstep hne
  obtain ⟨hv, ⟨-, rfl⟩ | ⟨-, -, rfl⟩ | ⟨hr, -, u, hm, rfl⟩⟩ := step_moves hstep
  · rw [resetWholeTick_trace] at hne
    split at hne <;> simp at hne
  · exact absurd rfl hne
  · have hin : s.takeInput.Inv := h
    obtain ⟨hseq, -⟩ := inv_iff.mp hin
    have hcount := hm.count_contend s.pending
    have hcon : u.contending = true := by
      by_contra hoff
      rw [if_neg hoff] at hcount
      exact hne hcount
    obtain ⟨hu, ho⟩ := (hseq.moves hv hm).overlap hcon
    obtain ⟨hop, hs, hout⟩ := hm.into_write_message hseq.op hu ho
    have hoe : u.out.getLsbD 15 = false := by
      simpa [State.contending, State.oeN] using (Bool.and_eq_true_iff.mp hcon).2
    rw [if_pos hcon] at hcount
    rw [hout] at hoe
    exact ⟨hop, hs, hoe, hr, hcount⟩

end Sys2Proof.Machine
end

section
/-! The device over a whole step (R55 to R59, R137): what a tick's action can do to it, and the countdown that
follows. -/

namespace Sys2Proof.Machine

/-- What the action of a tick may do to the device: nothing, or the write edge that ends WR_WE_LOW (R56, R170). -/
structure DeviceActed (s u : State) : Prop where
  cfg : u.cfg = s.cfg
  mem : u.mem = s.mem
  stuck : s.deviceStuck = true → u.deviceStuck = true
  pending : u.pending = s.pending ∨
    (s.state = .wrWeLow ∧ s.pending = none ∧ ∃ v, u.pending = some ⟨s.devAddr, v, devSettleNs⟩)

/-- A write edge in WR_WE_LOW: nothing, a stuck device or a new pending write (R56, R57). -/
theorem DeviceActed.capture {s : State} (hs : s.state = .wrWeLow) (v : Byte) :
    DeviceActed s (s.capture v) := by
  rcases capture_cases s v with ⟨-, he⟩ | ⟨-, -, he⟩ | ⟨-, hp, he⟩ <;> rw [he]
  · exact ⟨rfl, rfl, id, .inl rfl⟩
  · exact ⟨rfl, rfl, fun _ => rfl, .inl rfl⟩
  · exact ⟨rfl, rfl, id, .inr ⟨hs, hp, v, rfl⟩⟩

theorem DeviceActed.weLowExit {s : State} (hs : s.state = .wrWeLow) : DeviceActed s (weLowExit s) := by
  obtain ⟨v, hv⟩ := memWrite_captures (s.emit .weRise)
  obtain ⟨hcfg, hmem, hstuck, hpending⟩ := DeviceActed.capture (s := s.emit .weRise) hs v
  rw [weLowExit_eq, hv]
  exact ⟨hcfg, hmem, hstuck, hpending⟩

theorem DeviceActed.moves {inp : Input} {s u : State} (hm : Moves inp s u) : DeviceActed s u := by
  rcases hm.device_cases with ⟨hs, rfl⟩ | ⟨hmem, hp, hd⟩
  · obtain ⟨hcfg, hmem, hstuck, hpending⟩ := DeviceActed.weLowExit (s := { s with timer := 0#32 }) hs
    exact ⟨hcfg, hmem, hstuck, hpending⟩
  · exact ⟨hm.cfg_eq, hmem, hd.trans, .inl hp⟩

theorem DeviceActed.resetTick (s : State) : DeviceActed s (resetTick s) := by
  rcases resetWriteEdge_cases s with ⟨-, he⟩ | ⟨hs, he⟩
  · rw [Machine.resetTick, he]
    exact ⟨rfl, rfl, id, .inl rfl⟩
  · obtain ⟨hcfg, hmem, hstuck, hpending⟩ :=
      DeviceActed.capture (s := s.emit .weRise) hs (Config.drawWrite s.ticks)
    rw [Machine.resetTick, he]
    exact ⟨hcfg, hmem, hstuck, hpending⟩

/-- A stuck device takes no countdown (R57). -/
theorem settle_of_stuck {s : State} (hd : s.deviceStuck = true) (p : Option PendingWrite) : s.settle p = s := by
  cases p with
  | none => rfl
  | some p => simp [State.settle, hd]

/-- Any step is, for the device, an action and then the countdown of what was pending at its start (R57, R120). -/
theorem step_device {s t : State} (h : step s = .next t) :
    ∃ u, DeviceActed s u ∧ t.mem = (u.settle s.pending).mem ∧
      t.pending = (u.settle s.pending).pending ∧ t.deviceStuck = u.deviceStuck := by
  obtain ⟨-, ⟨-, rfl⟩ | ⟨-, hd, rfl⟩ | ⟨-, -, u, hm, rfl⟩⟩ := step_moves h
  · obtain ⟨hcfg, hmem, hstuck, hpending⟩ := DeviceActed.resetTick s.takeInput
    exact ⟨_, ⟨hcfg, hmem, hstuck, hpending⟩, rfl, rfl, by simp [resetWholeTick]⟩
  · exact ⟨s, ⟨rfl, rfl, id, .inl rfl⟩, by rw [settle_of_stuck hd]; rfl,
      by rw [settle_of_stuck hd]; rfl, rfl⟩
  · obtain ⟨hcfg, hmem, hstuck, hpending⟩ := DeviceActed.moves hm
    exact ⟨u, ⟨hcfg, hmem, hstuck, hpending⟩, by simp, by simp, by simp⟩

/-- Over a pending write no action puts another in its place (R57). -/
theorem DeviceActed.pending_some {s u : State} (h : DeviceActed s u) {p : PendingWrite}
    (hp : s.pending = some p) : u.pending = some p := by
  rcases h.pending with hkeep | ⟨-, hnone, -⟩
  · rw [hkeep, hp]
  · simp [hp] at hnone

/-- Under DEVICE_RETAINS a commit writes the byte itself (R57, R58). -/
theorem commit_retains {s : State} (hr : s.cfg.deviceRetains = true) (p : PendingWrite) :
    s.commit p = { s with mem := s.mem.write p.addr.toNat p.value, pending := none } := by
  simp [State.commit, State.retained, hr]

/-- Settles O34: the action keeps the pending write, and the countdown leaves it to a stuck device, commits it or
takes one tick from it. -/
theorem pendingWriteCountsDownAndCommits : Obligations.PendingWriteCountsDownAndCommits := by
  intro s t p hr hp h
  obtain ⟨u, hu, hmem, hpend, hstuck⟩ := step_device h
  have hup := hu.pending_some hp
  rw [hp] at hmem hpend
  rw [hmem, hpend, hstuck, ← hu.mem, ← hu.cfg]
  rcases settle_some u p with ⟨hd, he⟩ | ⟨hd, hle, he⟩ | ⟨hd, hlt, he⟩
  · simp [he, hd, hup]
  · simp [he, hd, hle, commit_retains (hu.cfg ▸ hr)]
  · simp [he, hd, hlt]

/-- Settles O35: the countdown writes MEM only by a commit, and a commit writes one cell. -/
theorem cellChangesOnlyWhenItsWriteCommits : Obligations.CellChangesOnlyWhenItsWriteCommits := by
  intro s t a hwf h hne
  obtain ⟨u, hu, hmem, -, -⟩ := step_device h
  rw [hmem, ← hu.mem] at hne
  cases hp : s.pending with
  | none => simp [hp] at hne
  | some p =>
    rw [hp] at hne
    rcases settle_some u p with ⟨-, he⟩ | ⟨hd, hle, he⟩ | ⟨-, -, he⟩
    · simp [he] at hne
    · refine ⟨p, rfl, ?_, by rwa [← hu.cfg], ?_⟩
      · by_contra ha
        rw [he, State.commit, read_write_other (by rwa [hu.mem]) _ (Ne.symm ha)] at hne
        exact hne rfl
      · by_contra hs
        have hstuck := hu.stuck (by simpa using hs)
        exact absurd (hd.symm.trans hstuck) (by decide)
    · simp [he] at hne

/-! ### The last tick of WR_WE_LOW (R137) -/

/-- A tick of WR_WE_LOW without RESET, over a device that takes steps (R137). -/
theorem step_wrWeLow {s : State} (hv : s.cfg.valid = true) (hr : s.input.reset = false)
    (hd : s.deviceStuck = false) (hs : s.state = .wrWeLow) :
    step s = .next (endTick s.pending (wrWeLowTick s.takeInput)) :=
  step_own hv hr hd (by simp [hs]) (by simp [ownAction, hs])

theorem wrWeLowTick_on {s : State} (ht : s.timer ≠ 1#32) :
    wrWeLowTick s = { s with timer := s.timer - 1#32 } := by
  rw [wrWeLowTick, timedTick, if_neg ht]

theorem wrWeLowTick_last {s : State} (ht : s.timer = 1#32) :
    wrWeLowTick s = weLowExit { s with timer := 0#32 } := by
  rw [wrWeLowTick, timedTick, if_pos ht, ht]
  rfl

/-- The edge at the end of WR_WE_LOW captures a byte over a device with nothing pending: DOUT, when the controller
alone drives the bus (R56). -/
theorem memWrite_quiet {s : State} (hd : s.deviceStuck = false) (hp : s.pending = none) :
    ∃ d : Byte, (s.ddir = .output → s.oeN = true → d = s.dout) ∧
      s.memWrite = { s with pending := some ⟨s.devAddr, d, devSettleNs⟩ } := by
  by_cases hdriven : s.ddir = .output ∧ s.oeN = true
  · exact ⟨s.dout, fun _ _ => rfl,
      by rw [memWrite_driven s hdriven.1 hdriven.2, capture_quiet hd hp]⟩
  · exact ⟨Config.drawWrite s.ticks, fun hdir hoe => absurd ⟨hdir, hoe⟩ hdriven,
      by rw [memWrite_released s hdriven, capture_quiet hd hp]⟩

/-- Settles O31: TIMER tells the last tick from the others, and the last one's edge captures over a quiet device. -/
theorem weLowTickEndsInTheDeviceCapture : Obligations.WeLowTickEndsInTheDeviceCapture := by
  intro s hv hr hd hs
  refine ⟨fun _ ht => ?_, fun ht hp => ?_⟩
  · rw [step_wrWeLow hv hr hd hs, wrWeLowTick_on (s := s.takeInput) ht]
    rfl
  · obtain ⟨d, hdriven, he⟩ :=
      memWrite_quiet (s := State.emit { s.takeInput with timer := 0#32 } .weRise) hd hp
    refine ⟨d, hdriven, ?_⟩
    rw [step_wrWeLow hv hr hd hs, wrWeLowTick_last (s := s.takeInput) ht, weLowExit_eq, he, hp]
    rfl

/-- Settles O32: the edge over a pending write leaves the device stuck, and a stuck device takes no countdown. -/
theorem writeDuringSettleLeavesTheDeviceStuck : Obligations.WriteDuringSettleLeavesTheDeviceStuck := by
  intro s hv hr hd hs ht hp
  obtain ⟨v, hcapture⟩ := memWrite_captures (State.emit { s.takeInput with timer := 0#32 } .weRise)
  have hedge : wrWeLowTick s.takeInput = { s.takeInput with
      trace := s.trace ++ [.weRise], weN := true, deviceStuck := true,
      timer := BitVec.ofNat 32 s.cfg.pSettleTicks, state := .wrSettle } := by
    rw [wrWeLowTick_last (s := s.takeInput) ht, weLowExit_eq, hcapture,
      capture_over (s := State.emit { s.takeInput with timer := 0#32 } .weRise) hp]
    rfl
  have hstep := step_wrWeLow hv hr hd hs
  rw [hedge] at hstep
  refine ⟨hstep, fun t ht => ?_⟩
  rw [hstep] at ht
  cases ht
  rw [endTick_pending, endTick_mem, settle_of_stuck rfl]
  exact ⟨rfl, rfl⟩

end Sys2Proof.Machine
end

section
/-! The ticks that R120 tells from the others: a reset, whatever is in flight (R170, R172), and a tick over a stuck
device (R57). -/

namespace Sys2Proof.Machine

/-! ### What a reset leaves alone, and what it does to the device -/

@[simp] theorem resetWriteEdge_sr (s : State) : (resetWriteEdge s).sr = s.sr := by
  rcases resetWriteEdge_cases s with ⟨-, h⟩ | ⟨-, h⟩ <;> simp [h]
@[simp] theorem resetWriteEdge_out (s : State) : (resetWriteEdge s).out = s.out := by
  rcases resetWriteEdge_cases s with ⟨-, h⟩ | ⟨-, h⟩ <;> simp [h]
@[simp] theorem resetWholeTick_sr (s : State) : (resetWholeTick s).sr = s.sr := by
  simp [resetWholeTick, resetTick]
@[simp] theorem resetWholeTick_out (s : State) : (resetWholeTick s).out = s.out := by
  simp [resetWholeTick, resetTick]

/-- Outside WR_WE_LOW a reset has no write edge (R170). -/
theorem resetWriteEdge_elsewhere {s : State} (hs : s.state ≠ .wrWeLow) : resetWriteEdge s = s :=
  if_neg hs

/-- In WR_WE_LOW the forced rise of WE_n is a write edge of a free byte (R170). -/
theorem resetWriteEdge_wrWeLow {s : State} (hs : s.state = .wrWeLow) :
    resetWriteEdge s = (s.emit .weRise).capture (Config.drawWrite s.ticks) :=
  if_pos hs

/-- A write edge does nothing to a stuck device (R57, log 9). -/
theorem capture_stuck {s : State} (hd : s.deviceStuck = true) (v : Byte) : s.capture v = s := by
  simp [State.capture, hd]

/-- A reset that leaves the device stuck, whether by its edge or before it, changes nothing by the countdown (R57). -/
theorem resetWholeTick_stuck {s u : State} (hu : resetWriteEdge s.takeInput = u) (hd : u.deviceStuck = true) :
    resetWholeTick s = (resetTick s.takeInput).countTick := by
  rw [resetWholeTick, settle_of_stuck (by simpa [resetTick, hu] using hd)]

/-- Settles O43: the write edge of the reset by the device it meets, and then the countdown. -/
theorem resetTickSetsTheListedRegisters : Obligations.ResetTickSetsTheListedRegisters := by
  intro s hv hr clear risen
  rw [step_reset hv hr]
  refine ⟨fun hs => ?_, fun hs hd hp => ?_, fun hs hd hp => ?_, fun hs hd => ?_⟩
  · rw [resetWholeTick, resetTick, resetWriteEdge_elsewhere (s := s.takeInput) hs]
  · rw [resetWholeTick, resetTick, resetWriteEdge_wrWeLow (s := s.takeInput) hs,
      capture_quiet (s := s.takeInput.emit .weRise) hd hp, hp]
    rfl
  · have hedge : resetWriteEdge s.takeInput = { risen with deviceStuck := true } := by
      rw [resetWriteEdge_wrWeLow (s := s.takeInput) hs, capture_over (s := s.takeInput.emit .weRise) hp]
      rfl
    rw [resetWholeTick_stuck hedge rfl, resetTick, hedge]
  · have hedge : resetWriteEdge s.takeInput = risen := by
      rw [resetWriteEdge_wrWeLow (s := s.takeInput) hs, capture_stuck (s := s.takeInput.emit .weRise) hd]
      rfl
    rw [resetWholeTick_stuck hedge hd, resetTick, hedge]

/-- Settles O44: outside WR_WE_LOW there is no write edge; in it, the edge over a pending write leaves the device
stuck. -/
theorem resetInMidRequestStartsNoWrite : Obligations.ResetInMidRequestStartsNoWrite := by
  intro s t hr h
  obtain ⟨-, ⟨-, rfl⟩ | ⟨hr', -⟩ | ⟨hr', -⟩⟩ := step_eq_next.mp h
  · refine ⟨by simp, by simp, by simp, by simp [State.ready], fun hs => ?_, fun hs hp _ => ?_⟩
    · have hedge := resetWriteEdge_elsewhere (s := s.takeInput) hs
      refine ⟨by simp [resetWholeTick, resetTick, hedge], fun hp => ?_⟩
      simp [resetWholeTick, resetTick, hedge, hp]
    · have hedge := resetWriteEdge_wrWeLow (s := s.takeInput) hs
      rw [capture_over (s := s.takeInput.emit .weRise) hp] at hedge
      simp [resetWholeTick, resetTick, hedge]
  · exact absurd (hr.symm.trans hr') (by decide)
  · exact absurd (hr.symm.trans hr') (by decide)

/-- Settles O60: without RESET the tick is the same state; with it, neither a write edge nor the countdown does
anything to a stuck device. -/
theorem stuckTickIsTheSameState : Obligations.StuckTickIsTheSameState := by
  intro s hv hd
  refine ⟨fun hr => step_stuck hv hr hd, fun hr => ⟨resetWholeTick s, step_reset hv hr, by simp, ?_⟩⟩
  have hedge : ∃ es, resetWriteEdge s.takeInput = { s.takeInput with trace := s.trace ++ es } := by
    rcases resetWriteEdge_cases s.takeInput with ⟨-, he⟩ | ⟨-, he⟩
    · exact ⟨[], by rw [he, List.append_nil]; rfl⟩
    · exact ⟨[.weRise], by rw [he, capture_stuck (s := s.takeInput.emit .weRise) hd]; rfl⟩
  obtain ⟨es, hes⟩ := hedge
  rw [resetWholeTick_stuck hes hd, resetTick, hes]
  exact ⟨hd, rfl, rfl⟩

end Sys2Proof.Machine
end

section
/-! Stretches of a run that nothing disturbs: no RESET, a device that takes steps, and a write that is retained if one
is pending. Over such a stretch the device's countdown and the sequencer's ticks do not meet, so that a phase of a
request is said once, with or without a pending write. -/

namespace Sys2Proof.Machine

/-! ### The device's countdown by itself (R57) -/

/-- The countdown on MEM and PENDING, under DEVICE_RETAINS (R57, R58). -/
def countdown (c : Config) : Memory × Option PendingWrite → Memory × Option PendingWrite
  | (m, none) => (m, none)
  | (m, some p) =>
    if p.remaining ≤ c.pTick then (m.write p.addr.toNat p.value, none)
    else (m, some { p with remaining := p.remaining - c.pTick })

/-- Nothing is pending, or what is pending will be retained (R58). -/
abbrev State.settles (s : State) : Prop := s.pending = none ∨ s.cfg.deviceRetains = true

theorem settle_eq_countdown {s : State} (hd : s.deviceStuck = false) (hr : s.settles) :
    s.settle s.pending =
      { s with
        mem := (countdown s.cfg (s.mem, s.pending)).1,
        pending := (countdown s.cfg (s.mem, s.pending)).2 } := by
  cases hp : s.pending with
  | none =>
    rw [settle_none]
    simp only [countdown, ← hp]
  | some p =>
    have hret : s.cfg.deviceRetains = true := hr.resolve_left (by simp [hp])
    rcases settle_some s p with ⟨hs, -⟩ | ⟨-, hle, he⟩ | ⟨-, hlt, he⟩
    · exact absurd (hd.symm.trans hs) (by decide)
    · rw [he, commit_retains hret]
      simp only [countdown, if_pos hle]
    · rw [he]
      simp only [countdown, if_neg (Nat.not_le_of_lt hlt)]

theorem iterate_countdown_none (c : Config) (m : Memory) (n : Nat) :
    (countdown c)^[n] (m, none) = (m, none) :=
  Function.iterate_fixed rfl n

/-- A pending write after one or more ticks: committed, or that many ticks nearer to it (R57). -/
theorem iterate_countdown_some (c : Config) (m : Memory) (p : PendingWrite) (n : Nat) :
    (countdown c)^[n + 1] (m, some p) =
      if p.remaining ≤ (n + 1) * c.pTick then (m.write p.addr.toNat p.value, none)
      else (m, some { p with remaining := p.remaining - (n + 1) * c.pTick }) := by
  induction n with
  | zero => simp [countdown]
  | succ n ih =>
    rw [Function.iterate_succ_apply', ih]
    have hmul : (n + 1 + 1) * c.pTick = (n + 1) * c.pTick + c.pTick := Nat.succ_mul _ _
    by_cases hle : p.remaining ≤ (n + 1) * c.pTick
    · rw [if_pos hle, if_pos (by omega)]
      rfl
    · rw [if_neg hle, countdown]
      by_cases hle' : p.remaining ≤ (n + 1 + 1) * c.pTick
      · rw [if_pos hle', if_pos (by simp only; omega)]
      · rw [if_neg hle', if_neg (by simp only; omega)]
        simp only [Nat.sub_sub, hmul]

/-! ### Ticks that pass -/

/-- `n` ticks pass for the inputs, the tick's number and the device, and nothing else changes. -/
def State.elapse (n : Nat) (s : State) : State :=
  { s.afterTicks n with
    mem := ((countdown s.cfg)^[n] (s.mem, s.pending)).1,
    pending := ((countdown s.cfg)^[n] (s.mem, s.pending)).2 }

/-! What passes leaves every register alone. -/

section
variable (n : Nat) (s : State)

@[simp] theorem elapse_state : (s.elapse n).state = s.state := rfl
@[simp] theorem elapse_idx : (s.elapse n).idx = s.idx := rfl
@[simp] theorem elapse_timer : (s.elapse n).timer = s.timer := rfl
@[simp] theorem elapse_op : (s.elapse n).op = s.op := rfl
@[simp] theorem elapse_addr : (s.elapse n).addr = s.addr := rfl
@[simp] theorem elapse_oe : (s.elapse n).oe = s.oe := rfl
@[simp] theorem elapse_data : (s.elapse n).data = s.data := rfl
@[simp] theorem elapse_frame : (s.elapse n).frame = s.frame := rfl
@[simp] theorem elapse_rdata : (s.elapse n).rdata = s.rdata := rfl
@[simp] theorem elapse_rdataValid : (s.elapse n).rdataValid = s.rdataValid := rfl
@[simp] theorem elapse_faultCode : (s.elapse n).faultCode = s.faultCode := rfl
@[simp] theorem elapse_sr : (s.elapse n).sr = s.sr := rfl
@[simp] theorem elapse_out : (s.elapse n).out = s.out := rfl
@[simp] theorem elapse_ddir : (s.elapse n).ddir = s.ddir := rfl
@[simp] theorem elapse_dout : (s.elapse n).dout = s.dout := rfl
@[simp] theorem elapse_acc : (s.elapse n).acc = s.acc := rfl
@[simp] theorem elapse_ser : (s.elapse n).ser = s.ser := rfl
@[simp] theorem elapse_srclk : (s.elapse n).srclk = s.srclk := rfl
@[simp] theorem elapse_rclk : (s.elapse n).rclk = s.rclk := rfl
@[simp] theorem elapse_weN : (s.elapse n).weN = s.weN := rfl
@[simp] theorem elapse_deviceStuck : (s.elapse n).deviceStuck = s.deviceStuck := rfl
@[simp] theorem elapse_trace : (s.elapse n).trace = s.trace := rfl
@[simp] theorem elapse_cfg : (s.elapse n).cfg = s.cfg := rfl

end

/-- Over a device with nothing pending only inputs and ticks pass. -/
theorem elapse_quiet {s : State} (hp : s.pending = none) (n : Nat) : s.elapse n = s.afterTicks n := by
  rw [State.elapse, hp, iterate_countdown_none, ← hp]
  rfl

/-- Over a pending write it commits or is `n + 1` ticks nearer to it. -/
theorem elapse_pending {s : State} {p : PendingWrite} (hp : s.pending = some p) (n : Nat) :
    s.elapse (n + 1) =
      if p.remaining ≤ (n + 1) * s.cfg.pTick then
        { s.afterTicks (n + 1) with mem := s.mem.write p.addr.toNat p.value, pending := none }
      else
        { s.afterTicks (n + 1) with
          pending := some { p with remaining := p.remaining - (n + 1) * s.cfg.pTick } } := by
  rw [State.elapse, hp, iterate_countdown_some]
  split <;> rfl

/-- It commits when it has no more to go than the ticks that pass. -/
theorem elapse_committed {s : State} {p : PendingWrite} {n : Nat} (hp : s.pending = some p)
    (hle : p.remaining ≤ (n + 1) * s.cfg.pTick) :
    s.elapse (n + 1) =
      { s.afterTicks (n + 1) with mem := s.mem.write p.addr.toNat p.value, pending := none } := by
  rw [elapse_pending hp, if_pos hle]

/-- Ticks add up: what passes in `m` ticks and then in `n` more passes in `m + n`. -/
theorem iterate_countdown_add (c : Config) (d : Memory × Option PendingWrite) (m n : Nat) :
    (countdown c)^[n] ((countdown c)^[m] d) = (countdown c)^[m + n] d := by
  rw [Nat.add_comm, Function.iterate_add_apply]

theorem elapse_zero (s : State) : s.elapse 0 = s := rfl

theorem elapse_elapse (s : State) (m n : Nat) : (s.elapse m).elapse n = s.elapse (m + n) := by
  simp only [State.elapse, State.afterTicks, Prod.mk.eta, iterate_countdown_add, List.drop_drop, Nat.add_assoc]

/-- An update that writes the sequencer's registers and the trace only, and reads neither the device nor the clock of
the run. For an update written out as a record each part holds by definition. -/
structure SequencerOnly (f : State → State) : Prop where
  commutes : ∀ (s : State) (m : Memory) (p : Option PendingWrite) (ins : List Input) (t : Nat),
    f { s with mem := m, pending := p, inputs := ins, ticks := t } =
      { f s with mem := m, pending := p, inputs := ins, ticks := t } := by intros; rfl
  deviceStuck : ∀ s, (f s).deviceStuck = s.deviceStuck := by intros; rfl
  cfg : ∀ s, (f s).cfg = s.cfg := by intros; rfl

section
variable {f : State → State}

/-- Such an update leaves the device and the clock as they are. -/
theorem SequencerOnly.eq (h : SequencerOnly f) (s : State) :
    f s = { f s with mem := s.mem, pending := s.pending, inputs := s.inputs, ticks := s.ticks } :=
  h.commutes s s.mem s.pending s.inputs s.ticks

theorem SequencerOnly.mem (h : SequencerOnly f) (s : State) : (f s).mem = s.mem := by
  rw [h.eq s]

theorem SequencerOnly.pending (h : SequencerOnly f) (s : State) : (f s).pending = s.pending := by
  rw [h.eq s]

theorem SequencerOnly.inputs (h : SequencerOnly f) (s : State) : (f s).inputs = s.inputs := by
  rw [h.eq s]

theorem SequencerOnly.ticks (h : SequencerOnly f) (s : State) : (f s).ticks = s.ticks := by
  rw [h.eq s]

/-- It makes no difference whether ticks pass before such an update or after it. -/
theorem SequencerOnly.elapse (h : SequencerOnly f) (s : State) (n : Nat) : f (s.elapse n) = (f s).elapse n := by
  refine (h.commutes s _ _ _ _).trans ?_
  simp only [State.elapse, State.afterTicks, h.mem, h.pending, h.inputs, h.ticks, h.cfg]

end

/-- The Contend event that the end of a tick notes in this state, if any (R120 step 4). -/
def State.contention (s : State) : List Event := if s.contending then [.contend] else []

theorem noteContention_eq (s : State) : s.noteContention = { s with trace := s.trace ++ s.contention } := by
  unfold State.noteContention State.contention
  split
  · rfl
  · rw [List.append_nil]

theorem noteContention_quiet {s : State} (h : s.contending = false) : s.noteContention = s := by
  simp [State.noteContention, h]

/-- The end of a tick over a device that the tick's action left alone (R120 steps 3 and 4). -/
theorem endTick_undisturbed {u : State} (hd : u.deviceStuck = false) (hr : u.settles) :
    endTick u.pending u =
      { u.noteContention with
        mem := (countdown u.cfg (u.mem, u.pending)).1,
        pending := (countdown u.cfg (u.mem, u.pending)).2,
        ticks := u.ticks + 1 } := by
  rw [endTick_eq, endTick_trace, settle_eq_countdown hd hr, noteContention_eq]
  rfl

/-- Nothing disturbs the next `n` ticks. -/
structure State.Undisturbed (n : Nat) (s : State) : Prop where
  configValid : s.cfg.valid = true
  deviceSteps : s.deviceStuck = false
  settles : s.settles
  notReset : s.noReset n

theorem noReset_of_le {s : State} {m n : Nat} (h : s.noReset n) (hmn : m ≤ n) : s.noReset m :=
  fun inp hinp => h inp ((List.take_subset_take_left _ hmn) hinp)

theorem noReset_drop {s t : State} {m n : Nat} (h : s.noReset (m + n)) (ht : t.inputs = s.inputs.drop m) :
    t.noReset n := by
  intro inp hinp
  rw [ht, List.take_drop] at hinp
  exact h inp (List.mem_of_mem_drop hinp)

/-- A tick without RESET: the next input has none (R120). -/
theorem input_reset_of_noReset {s : State} {n : Nat} (h : s.noReset (n + 1)) : s.input.reset = false := by
  unfold State.input
  cases hi : s.inputs with
  | nil => rfl
  | cons inp rest => exact h inp (by simp [hi])

/-! ### Runs over such a stretch -/

theorem State.settles.elapse {s : State} (h : s.settles) (n : Nat) : (s.elapse n).settles := by
  rcases h with hp | hr
  · left; rw [elapse_quiet hp]; exact hp
  · exact .inr hr

/-- `n` undisturbed ticks lead from `s` to `t`, and what follows is as undisturbed as it was. -/
def Leads (n : Nat) (s t : State) : Prop :=
  ∀ m, s.Undisturbed (n + m) → run n s = .next t ∧ t.Undisturbed m

theorem Leads.run {n : Nat} {s t : State} (h : Leads n s t) (hs : s.Undisturbed n) : run n s = .next t :=
  (h 0 hs).1

theorem Leads.trans {m n : Nat} {s t u : State} (h : Leads m s t) (h' : Leads n t u) :
    Leads (m + n) s u := by
  intro k hs
  rw [Nat.add_assoc] at hs
  obtain ⟨hrun, ht⟩ := h (n + k) hs
  obtain ⟨hrun', hu⟩ := h' k ht
  exact ⟨(run_add n hrun).trans hrun', hu⟩

theorem Leads.congr {m n : Nat} {s t u : State} (h : Leads m s t) (hn : n = m) (ht : u = t) : Leads n s u := by
  rwa [hn, ht]

theorem Leads.refl (s : State) : Leads 0 s s :=
  fun m hs => ⟨rfl, by rwa [Nat.zero_add] at hs⟩

/-- Where the ticks of two phases only pass for the device, its countdown adds up over both. -/
theorem Leads.next {m n : Nat} {s u : State} {f : State → State} (h : Leads m s (u.elapse m))
    (hf : SequencerOnly f) (h' : Leads n (u.elapse m) ((f (u.elapse m)).elapse n)) :
    Leads (m + n) s ((f u).elapse (m + n)) := by
  rw [hf.elapse, elapse_elapse] at h'
  exact h.trans h'

/-- One step is a stretch of one tick when it leaves the configuration alone and the device taking steps. -/
theorem leads_step {s t : State} (h : s.Undisturbed 1 → step s = .next t) (hc : t.cfg = s.cfg)
    (hi : t.inputs = s.inputs.drop 1) (hd : t.deviceStuck = s.deviceStuck) (hr : s.settles → t.settles) :
    Leads 1 s t := by
  intro m hs
  have hone : s.Undisturbed 1 :=
    ⟨hs.configValid, hs.deviceSteps, hs.settles, noReset_of_le hs.notReset (Nat.le_add_right 1 m)⟩
  refine ⟨(run_succ 0 (h hone)).trans (run_zero t), ?_⟩
  exact ⟨hc ▸ hs.configValid, hd.trans hs.deviceSteps, hr hs.settles, noReset_drop hs.notReset hi⟩

/-- A tick whose action is an update of the sequencer: the action, the Contend event that it may note, and one tick
passes (R120). -/
theorem leads_tick {s : State} {f : State → State} (hf : SequencerOnly f)
    (ha : portAction s.input s.takeInput = .next (f s.takeInput)) :
    Leads 1 s ((f s).noteContention.elapse 1) := by
  have hd := hf.deviceStuck s
  have hc := hf.cfg s
  have hu : f s.takeInput = { f s with inputs := s.inputs.tail } := by
    refine (hf.commutes s s.mem s.pending s.inputs.tail s.ticks).trans ?_
    rw [← hf.mem, ← hf.pending, ← hf.ticks]
  refine leads_step (fun hs => ?_) ?_ ?_ ?_ fun hr => ?_
  · have hsettles : (f s.takeInput).settles := by
      rw [State.settles, hu, hc, hf.pending]
      exact hs.settles
    rw [step_eq_next]
    refine ⟨hs.configValid, .inr (.inr ⟨input_reset_of_noReset hs.notReset, hs.deviceSteps, _, ha, ?_⟩)⟩
    have hpend : s.pending = (f s.takeInput).pending := (hf.pending s.takeInput).symm
    rw [hpend, endTick_undisturbed (by rw [hu]; exact hd.trans hs.deviceSteps) hsettles, hu, noteContention_eq,
      noteContention_eq, State.elapse, State.afterTicks, List.drop_one, hf.inputs]
    rfl
  · simpa using hc
  · simp [State.elapse, State.afterTicks, hf.inputs]
  · simpa using hd
  · have hsettles : (f s).noteContention.settles := by
      rw [State.settles, noteContention_pending, noteContention_cfg, hf.pending, hc]
      exact hr
    exact hsettles.elapse 1

/-- The same where nobody contends at the end of the tick. -/
theorem leads_quiet_tick {s : State} {f : State → State} (hf : SequencerOnly f)
    (ha : portAction s.input s.takeInput = .next (f s.takeInput)) (hn : (f s).contending = false) :
    Leads 1 s ((f s).elapse 1) := by
  have h := leads_tick hf ha
  rwa [noteContention_quiet hn] at h

/-- Outside IDLE the tick's action is the state's own (R126). -/
theorem portAction_own {inp : Input} {s : State} (hs : s.state ≠ .idle) : portAction inp s = ownAction s := by
  rcases portAction_cases inp s with ⟨-, he⟩ | ⟨hidle, -⟩
  · exact he
  · exact absurd hidle hs

/-- In IDLE a request that the port presents and the decoder reads is accepted (R125). -/
theorem portAction_accept {inp : Input} {s : State} {i : Instr} (hs : s.state = .idle)
    (hq : inp.reqValid = true) (hi : decode inp.reqWord = .ok i) :
    portAction inp s = .next (acceptOf i s) := by
  rw [portAction, if_pos hq, hi]
  exact exec_idle i hs

end Sys2Proof.Machine
end

section
/-! The phases of a request over an undisturbed stretch. Each is an update of the sequencer, after which its ticks have
passed (R100, R103 to R106, R121, R125, R127, R130 to R138). -/

namespace Sys2Proof.Machine

variable {s : State}

/-! ### Acceptance (R125) -/

theorem acceptOf_setaddr {a : Half} {e : Bool} (hok : wouldContend (frames a e) s = false) :
    acceptOf (.setaddr a e) s = { s with
      trace := s.trace ++ [.accept 1#2 a e 0#8], op := 1#2, addr := a, oe := e, data := 0#8,
      frame := frames a e, idx := 0#4, state := .shift } := by
  rcases acceptSetaddr_cases a e s with ⟨hc, -⟩ | ⟨-, he⟩
  · exact absurd (hok.symm.trans hc) (by decide)
  · exact he

theorem acceptOf_rdb {a : Half} (hok : a ≤ s.cfg.maxAddr) :
    acceptOf (.rdb a) s = { s with
      trace := s.trace ++ [.accept 2#2 a false 0#8], op := 2#2, addr := a, oe := false, data := 0#8,
      rdataValid := false, state := .dirIn } := by
  rcases acceptRdb_cases a s with ⟨hc, -⟩ | ⟨-, he⟩
  · exact absurd hc (BitVec.not_lt.mpr hok)
  · exact he

theorem acceptOf_wrb {a : Half} {v : Byte} (hok : a ≤ s.cfg.maxAddr) :
    acceptOf (.wrb a v) s = { s with
      trace := s.trace ++ [.accept 3#2 a false v], op := 3#2, addr := a, oe := false, data := v,
      state := .dirOut } := by
  rcases acceptWrb_cases a v s with ⟨hc, -⟩ | ⟨-, he⟩
  · exact absurd hc (BitVec.not_lt.mpr hok)
  · exact he

/-- One such update after another. -/
theorem SequencerOnly.comp {f g : State → State} (hg : SequencerOnly g) (hf : SequencerOnly f) :
    SequencerOnly (fun s => g (f s)) :=
  ⟨fun s m p ins t => by rw [hf.commutes, hg.commutes], fun s => (hg.deviceStuck _).trans (hf.deviceStuck s),
    fun s => (hg.cfg _).trans (hf.cfg s)⟩

/-- A choice between two such updates that neither the device nor the clock decides. -/
theorem SequencerOnly.choose {c : State → Prop} [DecidablePred c] {f g : State → State} (hf : SequencerOnly f)
    (hg : SequencerOnly g)
    (hc : ∀ (s : State) (m : Memory) (p : Option PendingWrite) (ins : List Input) (t : Nat),
      c { s with mem := m, pending := p, inputs := ins, ticks := t } ↔ c s) :
    SequencerOnly (fun s => if c s then f s else g s) := by
  refine ⟨fun s m p ins t => ?_, fun s => ?_, fun s => ?_⟩
  · by_cases h : c s
    · refine (if_pos ((hc s m p ins t).mpr h)).trans ?_
      rw [hf.commutes, if_pos h]
    · refine (if_neg (mt (hc s m p ins t).mp h)).trans ?_
      rw [hg.commutes, if_neg h]
  · by_cases h : c s
    · simp only [if_pos h, hf.deviceStuck]
    · simp only [if_neg h, hg.deviceStuck]
  · by_cases h : c s
    · simp only [if_pos h, hf.cfg]
    · simp only [if_neg h, hg.cfg]

/-- The checks of an acceptance read no register that the acceptance or a passing tick writes (R125). -/
theorem sequencerOnly_accept (i : Instr) : SequencerOnly (acceptOf i) := by
  cases i with
  | setaddr a e =>
    exact SequencerOnly.choose (c := fun s => wouldContend (frames a e) s = true) {} {} fun _ _ _ _ _ => Iff.rfl
  | rdb a =>
    exact SequencerOnly.choose (c := fun s => s.cfg.maxAddr < a) {} {} fun _ _ _ _ _ => Iff.rfl
  | wrb a v =>
    exact SequencerOnly.choose (c := fun s => s.cfg.maxAddr < a) {} {} fun _ _ _ _ _ => Iff.rfl

theorem acceptOf_contending (i : Instr) (s : State) : (acceptOf i s).contending = s.contending := by
  cases i with
  | setaddr a e => rcases acceptSetaddr_cases a e s with ⟨-, he⟩ | ⟨-, he⟩ <;> rw [acceptOf, he] <;> rfl
  | rdb a => rcases acceptRdb_cases a s with ⟨-, he⟩ | ⟨-, he⟩ <;> rw [acceptOf, he] <;> rfl
  | wrb a v => rcases acceptWrb_cases a v s with ⟨-, he⟩ | ⟨-, he⟩ <;> rw [acceptOf, he] <;> rfl

theorem leads_accept {i : Instr} (h : s.ReadyOver i) : Leads 1 s ((acceptOf i s).elapse 1) :=
  leads_quiet_tick (sequencerOnly_accept i) (portAction_accept (s := s.takeInput) h.idle h.requestValid h.request)
    ((acceptOf_contending i s).trans h.notContending)

/-! ### States of one tick (R104, R130, R133, R135) -/

theorem sequencerOnly_dirIn : SequencerOnly dirInTick := {}

theorem sequencerOnly_dirOut : SequencerOnly dirOutTick := {}

theorem sequencerOnly_done : SequencerOnly doneTick := {}

/-- The latch pulse, and the state that follows it (R104). -/
def latchTo (x : SeqState) (s : State) : State := { latchPulse s with idx := 0#4, state := x }

theorem sequencerOnly_latchTo (x : SeqState) : SequencerOnly (latchTo x) := {}

/-- The Contend event of a tick does not depend on the device or the clock. -/
theorem SequencerOnly.noted {f : State → State} (h : SequencerOnly f) :
    SequencerOnly (fun s => (f s).noteContention) := by
  simp only [noteContention_eq]
  refine ⟨fun s m p ins t => ?_, h.deviceStuck, h.cfg⟩
  rw [h.commutes]
  rfl

/-- A tick outside IDLE whose own action is an update of the sequencer. -/
theorem leads_own {f : State → State} (hf : SequencerOnly f) (hs : s.state ≠ .idle)
    (ha : ownAction s.takeInput = .next (f s.takeInput)) : Leads 1 s ((f s).noteContention.elapse 1) :=
  leads_tick hf ((portAction_own (s := s.takeInput) hs).trans ha)

/-- The same where nobody contends at the end of the tick. -/
theorem leads_quiet_own {f : State → State} (hf : SequencerOnly f) (hs : s.state ≠ .idle)
    (ha : ownAction s.takeInput = .next (f s.takeInput)) (hn : (f s).contending = false) :
    Leads 1 s ((f s).elapse 1) :=
  leads_quiet_tick hf ((portAction_own (s := s.takeInput) hs).trans ha) hn

theorem leads_dirIn (hs : s.state = .dirIn) : Leads 1 s ((dirInTick s).elapse 1) :=
  leads_quiet_own sequencerOnly_dirIn (by simp [hs]) (by simp [ownAction, hs]) rfl

theorem leads_dirOut (hs : s.state = .dirOut) : Leads 1 s ((dirOutTick s).noteContention.elapse 1) :=
  leads_own sequencerOnly_dirOut (by simp [hs]) (by simp [ownAction, hs])

theorem leads_done (hs : s.state = .done) (hn : s.contending = false) : Leads 1 s ((doneTick s).elapse 1) :=
  leads_quiet_own sequencerOnly_done (by simp [hs]) (by simp [ownAction, hs]) hn

/-- What LATCH puts on OUT decides whether both sides drive afterwards (R181). -/
theorem latchTo_contending (x : SeqState) (s : State) : (latchTo x s).contending = wouldContend s.sr s :=
  contending_eq_wouldContend _

theorem leads_latch_set (hs : s.state = .latch) (hi : s.idx = 0#4) (ho : s.op = 1#2)
    (hn : wouldContend s.sr s = false) : Leads 1 s ((latchTo .done s).elapse 1) := by
  refine leads_quiet_own (sequencerOnly_latchTo _) (by simp [hs]) ?_ ((latchTo_contending _ s).trans hn)
  rw [ownAction, takeInput_state, hs]
  refine (latchTick_set (s := s.takeInput) ho).trans ?_
  simp [latchTo, hi]

theorem leads_latch_write (hs : s.state = .latch) (ho : s.op = 3#2) (hn : wouldContend s.sr s = false) :
    Leads 1 s ((latchTo .wrDrive s).elapse 1) := by
  refine leads_quiet_own (sequencerOnly_latchTo _) (by simp [hs]) ?_ ((latchTo_contending _ s).trans hn)
  rw [ownAction, takeInput_state, hs]
  exact latchTick_write (s := s.takeInput) ho

/-! ### The address message (R103) -/

/-- One SHIFT tick (R103). IDX is 4 bits wide, so the last tick takes it from 15 to 0. -/
theorem shiftTick_eq (s : State) : shiftTick s = { s with
    ser := frameBit s.frame s.idx.toNat, srclk := false, sr := shiftIn16 s.sr (frameBit s.frame s.idx.toNat),
    idx := s.idx + 1#4, state := if s.idx = 15#4 then .latch else s.state,
    trace := s.trace ++ [.shift (frameBit s.frame s.idx.toNat)] } := by
  unfold shiftTick
  by_cases hk : s.idx = 15#4 <;> simp [hk]

theorem sequencerOnly_shift : SequencerOnly shiftTick := by
  refine ⟨fun s m p ins t => ?_, fun s => ?_, fun s => ?_⟩
  · rw [shiftTick_eq, shiftTick_eq]
  · rw [shiftTick_eq]
  · rw [shiftTick_eq]

/-- SR after the first `k` bits of the message `f` (R28, R103). -/
def shiftedIn (f sr : Half) : Nat → Half
  | 0 => sr
  | k + 1 => shiftIn16 (shiftedIn f sr k) (frameBit f k)

theorem shifted_shiftedIn (f sr : Half) {k : Nat} (hk : k ≤ 16) : Shifted f (shiftedIn f sr k) k := by
  induction k with
  | zero => exact fun j hj => absurd hj (Nat.not_lt_zero j)
  | succ k ih => exact (ih (by omega)).shiftIn16 (by omega)

/-- After all sixteen bits SR is the message (R105). -/
theorem shiftedIn_all (f sr : Half) : shiftedIn f sr 16 = f :=
  (shifted_shiftedIn f sr (Nat.le_refl 16)).eq_of_all

/-- SHIFT entered with IDX = 0, and `k + 1` of its ticks over (R103). -/
def afterShift (k : Nat) (s : State) : State :=
  { s with
    ser := frameBit s.frame k, srclk := false, sr := shiftedIn s.frame s.sr (k + 1),
    idx := BitVec.ofNat 4 (k + 1), state := if k = 15 then .latch else .shift,
    trace := s.trace ++ (List.range (k + 1)).flatMap
      (fun j => .shift (frameBit s.frame j) :: s.contention) }

theorem shiftTick_afterShift {k : Nat} (hk : k + 1 < 16) :
    (shiftTick (afterShift k s)).noteContention = afterShift (k + 1) s := by
  have hidx : (afterShift k s).idx.toNat = k + 1 := by
    simp only [afterShift, BitVec.toNat_ofNat]
    omega
  have hlast : (afterShift k s).idx = 15#4 ↔ k + 1 = 15 := by
    rw [← BitVec.toNat_inj, hidx]
    rfl
  have hnext : BitVec.ofNat 4 (k + 1 + 1) = BitVec.ofNat 4 (k + 1) + 1#4 := BitVec.ofNat_add (k + 1) 1
  have hstate : (afterShift k s).state = .shift := if_neg (by omega)
  rw [noteContention_eq, shiftTick_eq, hidx, if_congr hlast rfl hstate]
  simp [afterShift, hnext, shiftedIn, List.range_succ, State.contention, State.contending, State.oeN]

theorem leads_afterShift (hs : s.state = .shift) (hi : s.idx = 0#4) {k : Nat} (hk : k < 16) :
    Leads (k + 1) s ((afterShift k s).elapse (k + 1)) := by
  have hown {t : State} (ht : t.state = .shift) : Leads 1 t ((shiftTick t).noteContention.elapse 1) :=
    leads_own sequencerOnly_shift (by simp [ht]) (by simp only [ownAction, takeInput_state, ht])
  induction k with
  | zero =>
    refine (hown hs).congr rfl ?_
    rw [noteContention_eq, shiftTick_eq, hi]
    simp [afterShift, shiftedIn, hs, State.contention, State.contending, State.oeN]
  | succ k ih =>
    have hstate : (afterShift k s).state = .shift := if_neg (by omega)
    have h := (ih (by omega)).next sequencerOnly_shift.noted (hown hstate)
    rwa [shiftTick_afterShift hk] at h

/-- What the sixteen SHIFT ticks of a message make of the sequencer (R105, R106). -/
def messageSent (s : State) : State :=
  { s with
    ser := s.frame.getLsbD 0, srclk := false, sr := s.frame, idx := 0#4, state := .latch,
    trace := s.trace ++ shiftEvents s.frame s.contention }

theorem sequencerOnly_message : SequencerOnly messageSent := {}

theorem leads_message (hs : s.state = .shift) (hi : s.idx = 0#4) : Leads 16 s ((messageSent s).elapse 16) := by
  have h := leads_afterShift hs hi (k := 15) (by decide)
  rw [afterShift, shiftedIn_all] at h
  exact h

end Sys2Proof.Machine
end

section
/-! A whole SET_ADDRESS (R100, R139). -/

namespace Sys2Proof.Machine

variable {s : State}

/-- Nothing disturbs a request that is ready, when a write that is still pending is retained. -/
theorem State.ReadyOver.undisturbed {i : Instr} (h : s.ReadyOver i) (hr : s.settles) :
    s.Undisturbed (busyTicks s.cfg i + 1) :=
  ⟨h.configValid, h.deviceSteps, hr, h.notReset⟩

/-- What a SET_ADDRESS makes of the sequencer (R100, R139). -/
def setaddrDone (a : Half) (e : Bool) (s : State) : State :=
  doneTick (latchTo .done (messageSent (acceptOf (.setaddr a e) s)))

theorem sequencerOnly_setaddrDone (a : Half) (e : Bool) : SequencerOnly (setaddrDone a e) :=
  sequencerOnly_done.comp ((sequencerOnly_latchTo .done).comp
    (sequencerOnly_message.comp (sequencerOnly_accept (.setaddr a e))))

theorem leads_setaddr {a : Half} {e : Bool} (h : s.ReadyOver (.setaddr a e)) :
    Leads (busyTicks s.cfg (.setaddr a e) + 1) s ((setaddrDone a e s).elapse 19) := by
  have hacc := acceptOf_setaddr h.checksPass
  have haccept := leads_accept h
  have hmessage := haccept.next sequencerOnly_message (leads_message (by rw [hacc]; rfl) (by rw [hacc]; rfl))
  have hlatch := hmessage.next (sequencerOnly_latchTo .done)
    (leads_latch_set rfl rfl (by rw [hacc]; rfl) (by rw [hacc]; exact h.checksPass))
  exact hlatch.next sequencerOnly_done
    (leads_done rfl (by rw [hacc]; exact (contending_eq_wouldContend _).trans h.checksPass))

/-- The one-step form has what the ticks make of the sequencer, with the device as it was (R139). -/
theorem setaddrDone_eq {a : Half} {e : Bool} (h : s.ReadyOver (.setaddr a e)) :
    (setaddrDone a e s).afterTicks 19 = setaddrWhole a e s := by
  have hquiet : (acceptOf (.setaddr a e) s).contention = [] := by
    rw [State.contention, acceptOf_contending, h.notContending]
    rfl
  rw [setaddrDone, messageSent, hquiet, acceptOf_setaddr h.checksPass]
  simp [latchTo, doneResult, setaddrWhole, State.sentFrames, State.afterTicks, captureFields, busyTicks,
    setaddrEvents, h.idle]

/-- Settles O52: the same stretch of 19 ticks, over a device with nothing pending or with a write that commits or comes
nearer to it. -/
theorem setaddrRunsToItsEffect : Obligations.SetaddrRunsToItsEffect := by
  intro s a e
  have hseq := sequencerOnly_setaddrDone a e
  refine ⟨fun h => ?_, fun h hr p hp => ?_⟩
  · rw [(leads_setaddr h.toReadyOver).run (h.undisturbed (.inl h.nothingPending)),
      elapse_quiet ((hseq.pending s).trans h.nothingPending), setaddrDone_eq h.toReadyOver]
  · rw [(leads_setaddr h).run (h.undisturbed (.inr hr)), elapse_pending ((hseq.pending s).trans hp) 18,
      setaddrDone_eq h, hseq.cfg, hseq.mem]

end Sys2Proof.Machine
end

section
/-! The phases that a READ_BYTE and a WRITE_BYTE have of their own, over an undisturbed stretch (R121, R131, R132, R136
to R138). -/

namespace Sys2Proof.Machine

variable {s : State}

/-- A bus that the controller has released has no contention (R181). -/
theorem contending_of_input {s : State} (hd : s.ddir = .input) : s.contending = false := by
  simp [State.contending, hd]

/-! ### The timed states (R121) -/

/-- A tick of a timed state that is not its last only counts (R121). -/
theorem leads_count_one (hs : s.state = .rdWait ∨ s.state = .wrWeLow ∨ s.state = .wrSettle)
    (hn : s.contending = false) (ht : s.timer ≠ 1#32) :
    Leads 1 s (State.elapse 1 { s with timer := s.timer - 1#32 }) := by
  have hcount (exit : State → State) :
      timedTick exit s.takeInput = { s.takeInput with timer := s.timer - 1#32 } := if_neg ht
  refine leads_quiet_own (f := fun t => { t with timer := t.timer - 1#32 }) {} ?_ ?_ hn
  · rcases hs with h | h | h <;> simp [h]
  · rcases hs with h | h | h <;> simp [ownAction, h, rdWaitTick, wrWeLowTick, wrSettleTick, hcount]

/-- A timed state with `k + 1` ticks left has one left after `k` of them (R121). -/
theorem leads_count {k : Nat} (hs : s.state = .rdWait ∨ s.state = .wrWeLow ∨ s.state = .wrSettle)
    (hn : s.contending = false) (ht : s.timer.toNat = k + 1) :
    Leads k s (State.elapse k { s with timer := 1#32 }) := by
  induction k generalizing s with
  | zero =>
    refine (Leads.refl s).congr rfl ?_
    rw [elapse_zero, ← show s.timer = 1#32 from BitVec.eq_of_toNat_eq ht]
  | succ k ih =>
    have hne : s.timer ≠ 1#32 := fun h1 => by rw [h1] at ht; simp at ht
    have hpred := toNat_timer_pred (by omega) hne
    have hrest := ih (s := State.elapse 1 { s with timer := s.timer - 1#32 }) hs hn (by
      simp only [elapse_timer]
      omega)
    have hone : SequencerOnly (fun t => { t with timer := 1#32 }) := {}
    rw [Nat.add_comm]
    exact (leads_count_one hs hn hne).next hone hrest

/-- RD_WAIT lasts its count (R121, R132). -/
theorem leads_wait {n : Nat} (hs : s.state = .rdWait) (hn : s.contending = false) (hpos : 1 ≤ n)
    (ht : s.timer.toNat = n) :
    Leads n s (State.elapse n { s with timer := 0#32, idx := 0#4, state := .rdSample }) := by
  obtain ⟨k, rfl⟩ := Nat.exists_eq_add_of_le' hpos
  have hexit : SequencerOnly (fun t => { t with timer := 0#32, idx := 0#4, state := .rdSample }) := {}
  refine (leads_count (.inl hs) hn ht).next hexit (leads_quiet_own hexit (by simp [hs]) ?_ hn)
  simp [ownAction, hs, rdWaitTick, timedTick]

/-- WR_SETTLE lasts its count (R121, R138). -/
theorem leads_settle {n : Nat} (hs : s.state = .wrSettle) (hn : s.contending = false) (hpos : 1 ≤ n)
    (ht : s.timer.toNat = n) :
    Leads n s (State.elapse n { s with timer := 0#32, state := .done }) := by
  obtain ⟨k, rfl⟩ := Nat.exists_eq_add_of_le' hpos
  have hexit : SequencerOnly (fun t => { t with timer := 0#32, state := .done }) := {}
  refine (leads_count (.inr (.inr hs)) hn ht).next hexit (leads_quiet_own hexit (by simp [hs]) ?_ hn)
  simp [ownAction, hs, wrSettleTick, timedTick]

/-- The end of WR_WE_LOW over a device with nothing pending, while the controller alone drives DOUT (R56, R137). -/
def captured (s : State) : State :=
  { s with
    trace := s.trace ++ [.weRise], weN := true, pending := some ⟨s.devAddr, s.dout, devSettleNs⟩,
    timer := BitVec.ofNat 32 s.cfg.pSettleTicks, state := .wrSettle }

/-- The last tick of WR_WE_LOW (R56, R137). -/
theorem leads_capture (hs : s.state = .wrWeLow) (hdir : s.ddir = .output) (hoe : s.oeN = true)
    (hp : s.pending = none) (hr : s.cfg.deviceRetains = true) (ht : s.timer = 1#32) :
    Leads 1 s ((captured s).afterTicks 1) := by
  have hn : s.contending = false := by simp [State.contending, hoe]
  refine leads_step (fun hu => ?_) rfl rfl rfl fun _ => .inr hr
  obtain ⟨-, hlast⟩ :=
    weLowTickEndsInTheDeviceCapture s hu.configValid (input_reset_of_noReset hu.notReset) hu.deviceSteps hs
  obtain ⟨d, hd, hstep⟩ := hlast ht hp
  rw [hstep, hd hdir hoe, endTick_quiet]
  · rw [State.afterTicks, List.drop_one]
    rfl
  · exact hn

/-- WR_WE_LOW lasts its count and ends in the device's capture (R56, R121, R137). -/
theorem leads_weLow {n : Nat} (hs : s.state = .wrWeLow) (hdir : s.ddir = .output) (hoe : s.oeN = true)
    (hp : s.pending = none) (hr : s.cfg.deviceRetains = true) (hpos : 1 ≤ n) (ht : s.timer.toNat = n) :
    Leads n s ((captured s).afterTicks n) := by
  obtain ⟨k, rfl⟩ := Nat.exists_eq_add_of_le' hpos
  have hcount := leads_count (.inr (.inl hs)) (by simp [State.contending, hoe]) ht
  rw [elapse_quiet (s := { s with timer := 1#32 }) hp k] at hcount
  refine (hcount.trans (leads_capture hs hdir hoe hp hr rfl)).congr rfl ?_
  simp only [captured, State.afterTicks, List.drop_drop]
  rfl

/-! ### The eight samples (R131) -/

/-- ACC after the first `k` samples of the byte `b`, most significant bit first (R32, R131). -/
def sampledIn (b acc : Byte) : Nat → Byte
  | 0 => acc
  | k + 1 => shiftIn8 (sampledIn b acc k) (b.getLsbD (7 - k))

theorem getLsbD_sampledIn (b acc : Byte) {k j : Nat} (hj : j < k) (hk : k ≤ 8) :
    (sampledIn b acc k).getLsbD (k - 1 - j) = b.getLsbD (7 - j) := by
  induction k with
  | zero => exact absurd hj (Nat.not_lt_zero j)
  | succ k ih =>
    rw [sampledIn, getLsbD_shiftIn8]
    rcases Nat.lt_succ_iff_lt_or_eq.mp hj with hlt | rfl
    · rw [if_neg (by omega), decide_eq_true (by omega), Bool.true_and, ← ih hlt (by omega)]
      congr 1
      omega
    · rw [if_pos (by omega)]

/-- After all eight samples ACC is the byte (R131). -/
theorem sampledIn_all (b acc : Byte) : sampledIn b acc 8 = b := by
  refine BitVec.eq_of_getLsbD_eq fun i hi => ?_
  have hbit := getLsbD_sampledIn b acc (j := 7 - i) (k := 8) (by omega) (Nat.le_refl 8)
  rwa [show 8 - 1 - (7 - i) = i by omega] at hbit

/-- RD_SAMPLE entered with IDX = 0, and `k` samples of the byte `b` taken (R131). -/
def afterSamples (b : Byte) (k : Nat) (s : State) : State :=
  { s with
    acc := sampledIn b s.acc k, idx := BitVec.ofNat 4 k,
    trace := s.trace ++ (List.range k).map (fun i => .sample i (b.getLsbD (7 - i))) }

/-- All eight samples of the byte `b` taken, and RDATA written (R26, R131). -/
def sampled (b : Byte) (s : State) : State :=
  { s with
    acc := b, rdata := b, rdataValid := true, idx := 0#4, state := .done, trace := s.trace ++ sampleEvents b }

theorem sequencerOnly_sampled (b : Byte) : SequencerOnly (sampled b) := {}

/-- The device alone drives the bus, with nothing pending and its access time past (R34, R123). -/
structure State.Readable (s : State) : Prop where
  released : s.ddir = .input
  enabled : s.oeN = false
  nothingPending : s.pending = none
  accessed : s.cfg.accessTicks ≤ s.cfg.pReadSetupTicks

/-- Then every sample reads the selected cell. -/
theorem State.Readable.sampleByte (h : s.Readable) (i : Nat) : s.sampleByte i = s.cell := by
  rw [sampleByte_accessed (Nat.le_add_right_of_le h.accessed),
    dIn_driven h.released h.enabled h.nothingPending]
  rfl

theorem State.Readable.elapse (h : s.Readable) (n : Nat) : (s.elapse n).Readable ∧ (s.elapse n).cell = s.cell := by
  rw [elapse_quiet h.nothingPending]
  exact ⟨⟨h.released, h.enabled, h.nothingPending, h.accessed⟩, rfl⟩

theorem State.Readable.notContending (h : s.Readable) : s.contending = false :=
  contending_of_input h.released

/-- One sample, but for the last, of the byte `b` (R131). -/
def sampleOnce (b : Byte) (i : Nat) (s : State) : State :=
  { s with
    acc := shiftIn8 s.acc (b.getLsbD (7 - i)), idx := s.idx + 1#4,
    trace := s.trace ++ [.sample i (b.getLsbD (7 - i))] }

theorem State.Readable.sampleBit (h : s.Readable) (i : Nat) :
    sampleBit s.takeInput i = s.cell.getLsbD (7 - i) :=
  congrArg (fun b : Byte => b.getLsbD (7 - i)) (h.sampleByte i)

theorem leads_sample (h : s.Readable) (hs : s.state = .rdSample) (hk : s.idx.toNat < 7) :
    Leads 1 s ((sampleOnce s.cell s.idx.toNat s).elapse 1) := by
  refine leads_quiet_own (f := sampleOnce s.cell s.idx.toNat) {} (by simp [hs]) ?_ h.notContending
  rw [ownAction, takeInput_state, hs]
  refine (rdSampleTick_on (s := s.takeInput) hk).trans ?_
  simp [takeSample_eq, h.sampleBit, sampleOnce]

theorem leads_sample_last (h : s.Readable) (hs : s.state = .rdSample) (hk : s.idx = 7#4) :
    Leads 1 s (State.elapse 1 (finishRead (sampleOnce s.cell 7 s))) := by
  refine leads_quiet_own (f := fun t => finishRead (sampleOnce s.cell 7 t)) {} (by simp [hs]) ?_ h.notContending
  rw [ownAction, takeInput_state, hs]
  refine (rdSampleTick_last (s := s.takeInput) hk).trans ?_
  simp [takeSample_eq, h.sampleBit, sampleOnce]

theorem leads_afterSamples (h : s.Readable) (hs : s.state = .rdSample) (hi : s.idx = 0#4) {k : Nat}
    (hk : k ≤ 7) : Leads k s ((afterSamples s.cell k s).elapse k) := by
  induction k with
  | zero =>
    refine (Leads.refl s).congr rfl ?_
    simp [afterSamples, sampledIn, elapse_zero, ← hi]
  | succ k ih =>
    have hidx : (afterSamples s.cell k s).idx.toNat = k := by
      simp only [afterSamples, BitVec.toNat_ofNat]
      omega
    have hnext : BitVec.ofNat 4 (k + 1) = BitVec.ofNat 4 k + 1#4 := BitVec.ofNat_add k 1
    have hread : (afterSamples s.cell k s).Readable := ⟨h.released, h.enabled, h.nothingPending, h.accessed⟩
    obtain ⟨hread', hcell⟩ := hread.elapse k
    have hlead := leads_sample hread' hs (by rw [elapse_idx, hidx]; omega)
    rw [elapse_idx, hidx, hcell] at hlead
    have honce : sampleOnce s.cell k (afterSamples s.cell k s) = afterSamples s.cell (k + 1) s := by
      simp [sampleOnce, afterSamples, sampledIn, List.range_succ, hnext]
    rw [← honce]
    exact (ih (by omega)).next (f := sampleOnce s.cell k) {} hlead

/-- The eight samples of the cell that the device drives (R131). -/
theorem leads_sampled (h : s.Readable) (hs : s.state = .rdSample) (hi : s.idx = 0#4) :
    Leads 8 s ((sampled s.cell s).elapse 8) := by
  have hread : (afterSamples s.cell 7 s).Readable := ⟨h.released, h.enabled, h.nothingPending, h.accessed⟩
  obtain ⟨hread', hcell⟩ := hread.elapse 7
  have hlead := leads_sample_last hread' hs rfl
  rw [hcell] at hlead
  have hlast : finishRead (sampleOnce s.cell 7 (afterSamples s.cell 7 s)) = sampled s.cell s := by
    have hall : shiftIn8 (sampledIn s.cell s.acc 7) s.cell[0] = s.cell := sampledIn_all s.cell s.acc
    simp [sampleOnce, afterSamples, sampled, hall, sampleEvents, List.range_succ]
  rw [← hlast]
  exact (leads_afterSamples h hs hi (Nat.le_refl 7)).next (f := fun t => finishRead (sampleOnce s.cell 7 t)) {} hlead

/-! ### The eight drive steps (R136) -/

/-- DOUT after the first `k` drive steps of the byte `v` (R31, R136). -/
def drivenIn (v dout : Byte) : Nat → Byte
  | 0 => dout
  | k + 1 => setBit8 (drivenIn v dout k) k (v.getLsbD k)

theorem driven_drivenIn (v dout : Byte) {k : Nat} (hk : k ≤ 8) : Driven v (drivenIn v dout k) k := by
  induction k with
  | zero => exact fun j hj => absurd hj (Nat.not_lt_zero j)
  | succ k ih => exact (ih (by omega)).setBit8 (by omega)

/-- WR_DRIVE entered with IDX = 0, and `k` of its ticks over (R136). -/
def afterDrives (k : Nat) (s : State) : State :=
  { s with
    dout := drivenIn s.data s.dout k, idx := BitVec.ofNat 4 k,
    trace := s.trace ++ (List.range k).map (fun i => .drive i (s.data.getLsbD i)) }

/-- One drive step, but for the last (R136). -/
def driveOnce (s : State) : State := { driveBit s s.idx.toNat with idx := s.idx + 1#4 }

theorem sequencerOnly_driveOnce : SequencerOnly driveOnce := {}

theorem leads_afterDrives (hs : s.state = .wrDrive) (hi : s.idx = 0#4) (hn : s.contending = false) {k : Nat}
    (hk : k ≤ 7) : Leads k s ((afterDrives k s).elapse k) := by
  induction k with
  | zero =>
    refine (Leads.refl s).congr rfl ?_
    simp [afterDrives, drivenIn, elapse_zero, ← hi]
  | succ k ih =>
    have hidx : (afterDrives k s).idx.toNat = k := by
      simp only [afterDrives, BitVec.toNat_ofNat]
      omega
    have hnext : BitVec.ofNat 4 (k + 1) = BitVec.ofNat 4 k + 1#4 := BitVec.ofNat_add k 1
    have hlead : Leads 1 ((afterDrives k s).elapse k) ((driveOnce ((afterDrives k s).elapse k)).elapse 1) := by
      refine leads_quiet_own sequencerOnly_driveOnce (by simp [afterDrives, hs]) ?_ hn
      rw [ownAction, takeInput_state, show ((afterDrives k s).elapse k).state = .wrDrive from hs]
      exact wrDriveTick_on (s := ((afterDrives k s).elapse k).takeInput)
        (by rw [takeInput_idx, elapse_idx, hidx]; omega)
    have honce : driveOnce (afterDrives k s) = afterDrives (k + 1) s := by
      rw [driveOnce, hidx]
      simp [afterDrives, drivenIn, List.range_succ, hnext]
    rw [← honce]
    exact (ih (by omega)).next sequencerOnly_driveOnce hlead

/-- All eight bits of DATA on DOUT, and WE_n low (R136). -/
def driven (s : State) : State :=
  { s with
    dout := s.data, weN := false, timer := BitVec.ofNat 32 s.cfg.pWeTicks, idx := 0#4, state := .wrWeLow,
    trace := s.trace ++ driveEvents s.data ++ [.weFall] }

theorem sequencerOnly_driven : SequencerOnly driven := {}

/-- The eight drive steps of a WRITE_BYTE (R136). -/
theorem leads_driven (hs : s.state = .wrDrive) (hi : s.idx = 0#4) (hn : s.contending = false) :
    Leads 8 s ((driven s).elapse 8) := by
  have hfinish : SequencerOnly (fun t => finishDrive (driveBit t 7)) := {}
  have hlead : Leads 1 ((afterDrives 7 s).elapse 7)
      ((finishDrive (driveBit ((afterDrives 7 s).elapse 7) 7)).elapse 1) := by
    refine leads_quiet_own hfinish (by simp [afterDrives, hs]) ?_ hn
    rw [ownAction, takeInput_state, show ((afterDrives 7 s).elapse 7).state = .wrDrive from hs]
    exact wrDriveTick_last (s := ((afterDrives 7 s).elapse 7).takeInput) rfl
  have hlast : finishDrive (driveBit (afterDrives 7 s) 7) = driven s := by
    have hall : setBit8 (drivenIn s.data s.dout 7) 7 s.data[7] = s.data :=
      (driven_drivenIn s.data s.dout (Nat.le_refl 8)).eq_of_all
    simp [afterDrives, driven, hall, driveEvents, List.range_succ]
  rw [← hlast]
  exact (leads_afterDrives hs hi hn (Nat.le_refl 7)).next hfinish hlead

end Sys2Proof.Machine
end

section
/-! A whole READ_BYTE and a whole WRITE_BYTE (R127, R134, R139). -/

namespace Sys2Proof.Machine

variable {s : State}

/-! ### READ_BYTE -/

/-- LATCH and the read setup time after it (R104, R132). -/
def readSetup (s : State) : State :=
  { latchTo .rdSample s with timer := if s.cfg.pReadSetupTicks = 0 then s.timer else 0#32 }

theorem sequencerOnly_readSetup : SequencerOnly readSetup := {}

/-- LATCH with a read setup time to come (R104). -/
def latchToWait (s : State) : State :=
  { latchTo .rdWait s with timer := BitVec.ofNat 32 s.cfg.pReadSetupTicks }

theorem sequencerOnly_latchToWait : SequencerOnly latchToWait := {}

theorem leads_latch_wait (hs : s.state = .latch) (hi : s.idx = 0#4) (ho : s.op = 2#2) (hd : s.ddir = .input)
    (hz : s.cfg.pReadSetupTicks ≠ 0) : Leads 1 s ((latchToWait s).elapse 1) := by
  refine leads_quiet_own sequencerOnly_latchToWait (by simp [hs]) ?_ (contending_of_input hd)
  rw [ownAction, takeInput_state, hs]
  refine (latchTick_read (s := s.takeInput) ho).trans ?_
  rw [enterRead_wait (s := latchPulse s.takeInput) hz]
  simp [latchToWait, latchTo, hi]

theorem leads_latch_read (hs : s.state = .latch) (ho : s.op = 2#2) (hd : s.ddir = .input)
    (hz : s.cfg.pReadSetupTicks = 0) : Leads 1 s ((latchTo .rdSample s).elapse 1) := by
  refine leads_quiet_own (sequencerOnly_latchTo .rdSample) (by simp [hs]) ?_ (contending_of_input hd)
  rw [ownAction, takeInput_state, hs]
  refine (latchTick_read (s := s.takeInput) ho).trans ?_
  rw [enterRead_now (s := latchPulse s.takeInput) hz]
  rfl

theorem leads_readSetup {n : Nat} (hv : s.cfg.valid = true) (hp : s.cfg.pReadSetupTicks = n)
    (hs : s.state = .latch) (hi : s.idx = 0#4) (ho : s.op = 2#2) (hd : s.ddir = .input) :
    Leads (1 + n) s ((readSetup s).elapse (1 + n)) := by
  subst hp
  obtain ⟨-, -, -, -, -, -, -, h32⟩ := s.cfg.valid_iff.mp hv
  by_cases hz : s.cfg.pReadSetupTicks = 0
  · rw [hz, readSetup, if_pos hz]
    exact leads_latch_read hs ho hd hz
  · have htimer : (BitVec.ofNat 32 s.cfg.pReadSetupTicks).toNat = s.cfg.pReadSetupTicks := by
      rw [BitVec.toNat_ofNat, Nat.mod_eq_of_lt h32]
    have hwait := leads_wait (s := (latchToWait s).elapse 1) rfl (contending_of_input hd)
      (Nat.pos_of_ne_zero hz) htimer
    rw [readSetup, if_neg hz]
    exact (leads_latch_wait hs hi ho hd hz).next
      (f := fun t => { t with timer := 0#32, idx := 0#4, state := .rdSample }) {} hwait

/-- A READ_BYTE from its acceptance to its first sample (R104, R127, R130, R132). -/
def readOpened (a : Half) (s : State) : State :=
  readSetup (messageSent (dirInTick (acceptOf (.rdb a) s)))

theorem readOpened_eq {a : Half} (hok : a ≤ s.cfg.maxAddr) : readOpened a s = { s with
    op := 2#2, addr := a, oe := false, data := 0#8, frame := frames a true, sr := frames a true,
    out := frames a true, ser := (frames a true).getLsbD 0, srclk := false, rclk := false, idx := 0#4,
    ddir := .input, acc := 0#8, rdataValid := false, state := .rdSample,
    timer := if s.cfg.pReadSetupTicks = 0 then s.timer else 0#32,
    trace := s.trace ++ ([.accept 2#2 a false 0#8, .dir .input] ++ shiftEvents (frames a true) [] ++
      [.latch (frames a true)]) } := by
  rw [readOpened, acceptOf_rdb hok]
  simp [readSetup, latchTo, messageSent, State.contention, State.contending]

theorem leads_readOpened {a : Half} (h : s.ReadyOver (.rdb a)) :
    Leads (1 + 1 + 16 + (1 + s.cfg.pReadSetupTicks)) s
      ((readOpened a s).elapse (1 + 1 + 16 + (1 + s.cfg.pReadSetupTicks))) := by
  have hacc := acceptOf_rdb (s := s) h.checksPass
  have haccept := leads_accept h
  rw [hacc] at haccept
  have hdir := haccept.next sequencerOnly_dirIn (leads_dirIn rfl)
  have hmessage := hdir.next sequencerOnly_message (leads_message rfl rfl)
  rw [readOpened, hacc]
  exact hmessage.next sequencerOnly_readSetup (leads_readSetup h.configValid rfl rfl rfl rfl rfl)

/-- Then OUT holds the address with the device enabled, and the device drives its cell (R34, R102, R143). -/
theorem readable_readOpened {a : Half} (h : s.ReadyFor (.rdb a))
    (hacc : s.cfg.accessTicks ≤ s.cfg.pReadSetupTicks) :
    (readOpened a s).Readable ∧ (readOpened a s).cell = s.mem.read a.toNat := by
  have hrange : a ≤ s.cfg.maxAddr := h.checksPass
  have hout : (readOpened a s).out = frames a true := by rw [readOpened_eq hrange]
  have haddr := devAddr_of_frames_in_range hout (by rw [readOpened_eq hrange]; exact hrange)
  have hoe := oeN_of_frames hout
  rw [Config.getLsbD_15_of_in_range hrange] at hoe
  rw [State.cell, haddr]
  rw [readOpened_eq hrange] at hoe ⊢
  exact ⟨⟨rfl, hoe, h.nothingPending, hacc⟩, rfl⟩

/-- The ticks of a READ_BYTE lead to its one-step form, with the device's data there by the first sample (R123,
R139). -/
theorem leads_rdb {a : Half} (h : s.ReadyFor (.rdb a)) (hacc : s.cfg.accessTicks ≤ s.cfg.pReadSetupTicks) :
    Leads (busyTicks s.cfg (.rdb a) + 1) s (rdbWhole a s) := by
  have hrange : a ≤ s.cfg.maxAddr := h.checksPass
  obtain ⟨hread, hcell⟩ := readable_readOpened h hacc
  obtain ⟨hread', hcell'⟩ := hread.elapse (1 + 1 + 16 + (1 + s.cfg.pReadSetupTicks))
  have hopened := leads_readOpened h.toReadyOver
  have hsampled := hopened.next (sequencerOnly_sampled _)
    (leads_sampled hread' (by rw [readOpened_eq hrange]; rfl) (by rw [readOpened_eq hrange]; rfl))
  have hdone := hsampled.next sequencerOnly_done (leads_done rfl hread'.notContending)
  have hticks : 1 + 1 + 16 + (1 + s.cfg.pReadSetupTicks) + 8 + 1 = busyTicks s.cfg (.rdb a) + 1 := by
    rw [busyTicks]
    omega
  rw [hcell', hcell, hticks,
    elapse_quiet (s := doneTick (sampled _ (readOpened a s))) hread.nothingPending, readOpened_eq hrange] at hdone
  refine hdone.congr rfl ?_
  simp [rdbWhole, State.sentFrames, State.afterTicks, captureFields, sampled, doneResult, rdbEvents, h.idle]

/-! ### WRITE_BYTE -/

/-- A WRITE_BYTE from its acceptance to the fall of WE_n (R104, R134 to R136). -/
def writeOpened (a : Half) (v : Byte) (s : State) : State :=
  driven (latchTo .wrDrive (messageSent (dirOutTick (acceptOf (.wrb a v) s)).noteContention))

theorem writeOpened_eq {a : Half} {v : Byte} (hok : a ≤ s.cfg.maxAddr) : writeOpened a v s = { s with
    op := 3#2, addr := a, oe := false, data := v, frame := frames a false, sr := frames a false,
    out := frames a false, ser := (frames a false).getLsbD 0, srclk := false, rclk := false, idx := 0#4,
    ddir := .output, dout := v, weN := false, timer := BitVec.ofNat 32 s.cfg.pWeTicks, state := .wrWeLow,
    trace := s.trace ++ ([.accept 3#2 a false v, .dir .output] ++ (if !s.oeN then [.contend] else []) ++
      shiftEvents (frames a false) (if !s.oeN then [.contend] else []) ++ [.latch (frames a false)] ++
      driveEvents v ++ [.weFall]) } := by
  rw [writeOpened, acceptOf_wrb hok]
  simp [driven, latchTo, messageSent, noteContention_eq, State.contention, State.contending, State.oeN]

theorem leads_writeOpened {a : Half} {v : Byte} (h : s.ReadyOver (.wrb a v)) :
    Leads 27 s ((writeOpened a v s).elapse 27) := by
  have hacc := acceptOf_wrb (s := s) (v := v) h.checksPass
  have haccept := leads_accept h
  rw [hacc] at haccept
  have hdir := haccept.next sequencerOnly_dirOut.noted (leads_dirOut rfl)
  simp only [noteContention_eq] at hdir
  have hmessage := hdir.next sequencerOnly_message (leads_message rfl rfl)
  have hlatch := hmessage.next (sequencerOnly_latchTo .wrDrive)
    (leads_latch_write rfl rfl (wouldContend_disabled a _))
  rw [writeOpened, hacc, noteContention_eq]
  exact hlatch.next sequencerOnly_driven
    (leads_driven rfl rfl ((contending_eq_wouldContend _).trans (wouldContend_disabled a _)))

/-- From WE_n's fall to DONE: the device captures the byte, and its settle time is over when WR_SETTLE is (R137, R138,
R140). -/
theorem leads_capture_to_done {n : Nat} (hv : s.cfg.valid = true) (hs : s.state = .wrWeLow) (hdir : s.ddir = .output)
    (hoe : s.oeN = true) (hp : s.pending = none) (hr : s.cfg.deviceRetains = true)
    (ht : s.timer = BitVec.ofNat 32 s.cfg.pWeTicks) (ho : s.op = 3#2)
    (ha : s.devAddr.toNat = n) :
    Leads (s.cfg.pWeTicks + (s.cfg.pSettleTicks + 1)) s
      (State.afterTicks (s.cfg.pWeTicks + (s.cfg.pSettleTicks + 1)) { s with
        trace := s.trace ++ [.weRise, .done 3#2 none], weN := true, timer := 0#32, state := .idle,
        mem := s.mem.write n s.dout }) := by
  subst ha
  obtain ⟨-, hwe, hsettle, -, hcover, hwe32, hsettle32, -⟩ := s.cfg.valid_iff.mp hv
  have htimer : s.timer.toNat = s.cfg.pWeTicks := by
    rw [ht, BitVec.toNat_ofNat, Nat.mod_eq_of_lt hwe32]
  have hload : (BitVec.ofNat 32 s.cfg.pSettleTicks).toNat = s.cfg.pSettleTicks := by
    rw [BitVec.toNat_ofNat, Nat.mod_eq_of_lt hsettle32]
  have hn : s.contending = false := by simp [State.contending, hoe]
  have hlow := leads_weLow hs hdir hoe hp hr hwe htimer
  have hdone := (leads_settle (s := (captured s).afterTicks s.cfg.pWeTicks) rfl hn hsettle hload).next
    sequencerOnly_done (leads_done rfl hn)
  rw [elapse_committed rfl] at hdone
  · refine (hlow.trans hdone).congr rfl ?_
    simp [captured, State.afterTicks, doneResult, ho, hp, Nat.add_assoc]
  · exact Nat.le_trans hcover (Nat.mul_le_mul_right _ (Nat.le_succ _))

/-- The ticks of a WRITE_BYTE lead to its one-step form, under DEVICE_RETAINS (R58, R139). -/
theorem leads_wrb {a : Half} {v : Byte} (h : s.ReadyFor (.wrb a v)) (hr : s.cfg.deviceRetains = true) :
    Leads (busyTicks s.cfg (.wrb a v) + 1) s (wrbWhole a v s) := by
  have hrange : a ≤ s.cfg.maxAddr := h.checksPass
  have hopened := leads_writeOpened h.toReadyOver
  have hquiet : (writeOpened a v s).pending = none := by rw [writeOpened_eq hrange]; exact h.nothingPending
  have hout : (writeOpened a v s).out = frames a false := by rw [writeOpened_eq hrange]
  have hoe : (writeOpened a v s).oeN = true := by rw [oeN_of_frames hout, Bool.not_false, Bool.or_true]
  have haddr : (writeOpened a v s).devAddr.toNat = a.toNat :=
    devAddr_of_frames_in_range hout (by rw [writeOpened_eq hrange]; exact hrange)
  rw [elapse_quiet hquiet] at hopened
  rw [writeOpened_eq hrange] at hopened hquiet hoe haddr
  have hdone := hopened.trans (leads_capture_to_done h.configValid rfl rfl hoe hquiet hr rfl rfl haddr)
  refine hdone.congr (by simp [busyTicks, State.afterTicks]; omega) ?_
  simp [State.afterTicks, wrbWhole, State.sentFrames, captureFields, busyTicks, wrbEvents, h.idle,
    Nat.add_assoc]

end Sys2Proof.Machine
end

section
/-! What was written stays: a cell keeps its byte over a run in which no other WRITE_BYTE to it is accepted (R58). -/

namespace Sys2Proof.Machine

variable {s t : State}

/-! ### What a run keeps and what it adds -/

theorem inv_of_run {n : Nat} (h : s.Inv) (hrun : run n s = .next t) : t.Inv := by
  induction n generalizing s with
  | zero =>
    cases hrun
    exact h
  | succ n ih =>
    obtain ⟨s', hstep, hrest⟩ := run_succ_next hrun
    exact ih (stepKeepsTheInvariant s s' h hstep) hrest

theorem cfg_of_run {n : Nat} (hrun : run n s = .next t) : t.cfg = s.cfg := by
  induction n generalizing s with
  | zero =>
    cases hrun
    rfl
  | succ n ih =>
    obtain ⟨s', hstep, hrest⟩ := run_succ_next hrun
    exact (ih hrest).trans (configurationIsFixedAndTraceGrows s s' hstep).1

theorem trace_of_run {n : Nat} (hrun : run n s = .next t) : ∃ es, t.trace = s.trace ++ es := by
  induction n generalizing s with
  | zero =>
    cases hrun
    exact ⟨[], (List.append_nil _).symm⟩
  | succ n ih =>
    obtain ⟨s', hstep, hrest⟩ := run_succ_next hrun
    obtain ⟨-, es, hes⟩ := configurationIsFixedAndTraceGrows s s' hstep
    obtain ⟨es', hes'⟩ := ih hrest
    exact ⟨es ++ es', by rw [hes', hes, List.append_assoc]⟩

/-! ### The cell of an address that nobody writes -/

/-- Cell `a` holds `v`, and no write to it is on its way: none is pending in the device and none is in flight. -/
structure CellSafe (a : Half) (v : Byte) (s : State) : Prop where
  inv : s.Inv
  holds : s.mem.read a.toNat = v
  notPending : ∀ p ∈ s.pending, p.addr.toNat ≠ a.toNat
  notInFlight : s.inFlight → s.op = 3#2 → s.addr ≠ a

/-- A WRITE_BYTE in flight after a move was in flight before it, or the move accepted it and noted that (R24, R125). -/
theorem Moves.write_in_flight {inp : Input} {s u : State} (hm : Moves inp s u) (hu : u.inFlight)
    (ho : u.op = 3#2) :
    (s.inFlight ∧ s.op = 3#2 ∧ s.addr = u.addr) ∨
      ∃ v, u.trace = s.trace ++ [.accept 3#2 u.addr false v] := by
  cases hm
  case wrb => exact .inr ⟨_, rfl⟩
  all_goals left; simp_all [raiseFault, State.inFlight]

/-- The write edge of WR_WE_LOW is to the address of the request in flight (R29, R105). -/
theorem devAddr_of_wrWeLow (h : s.Inv) (hs : s.state = .wrWeLow) :
    s.inFlight ∧ s.op = 3#2 ∧ s.devAddr.toNat = s.addr.toNat := by
  obtain ⟨hseq, -⟩ := inv_iff.mp h
  have hflight : s.inFlight := ⟨by simp [hs], by simp [hs]⟩
  have ho : s.op = 3#2 := by simpa [State.opOk, hs] using hseq.op
  have hout : s.out = frames s.addr s.oeUsed := hseq.latched (by simp [hs])
  exact ⟨hflight, ho, devAddr_of_frames_in_range hout (hseq.range hflight (by simp [ho]))⟩

/-- What is pending after the countdown is to the address of what was pending before (R57). -/
theorem addr_of_settle {p : Option PendingWrite} {q : PendingWrite} (hq : q ∈ (s.settle p).pending) :
    q ∈ s.pending ∨ ∃ p' ∈ p, q.addr = p'.addr := by
  cases p with
  | none => exact .inl hq
  | some p' =>
    rcases settle_some s p' with ⟨-, he⟩ | ⟨-, -, he⟩ | ⟨-, -, he⟩ <;> rw [he] at hq
    · exact .inl hq
    · simp [State.commit] at hq
    · obtain rfl := Option.mem_some.mp hq
      exact .inr ⟨p', rfl, rfl⟩

/-- A write that is pending after a step is to another cell, if it was so before and the request in flight is (R56,
R57). -/
theorem CellSafe.notPending_step {a : Half} {v : Byte} (h : CellSafe a v s) (hstep : step s = .next t) :
    ∀ p ∈ t.pending, p.addr.toNat ≠ a.toNat := by
  intro q hq
  obtain ⟨u, hu, -, hpend, -⟩ := step_device hstep
  rw [hpend] at hq
  rcases addr_of_settle hq with hq' | ⟨p, hp, haddr⟩
  · rcases hu.pending with hkeep | ⟨hs, -, d, hedge⟩
    · exact h.notPending q (hkeep ▸ hq')
    · rw [hedge] at hq'
      obtain rfl := Option.mem_some.mp hq'
      obtain ⟨hflight, ho, hdev⟩ := devAddr_of_wrWeLow h.inv hs
      exact fun heq => h.notInFlight hflight ho (BitVec.eq_of_toNat_eq (hdev.symm.trans heq))
  · rw [haddr]
    exact h.notPending p hp

/-- A request in flight after a step is no WRITE_BYTE to the cell, unless the step accepted it (R24, R125). -/
theorem CellSafe.notInFlight_step {a : Half} {v : Byte} (h : CellSafe a v s) (hstep : step s = .next t)
    (hno : ∀ v', Event.accept 3#2 a false v' ∉ t.trace.drop s.trace.length) :
    t.inFlight → t.op = 3#2 → t.addr ≠ a := by
  obtain ⟨-, ⟨-, rfl⟩ | ⟨-, -, rfl⟩ | ⟨-, -, u, hm, rfl⟩⟩ := step_moves hstep
  · exact fun hflight => absurd (resetWholeTick_state s) hflight.1
  · exact h.notInFlight
  · intro hflight ho
    simp only [State.inFlight, endTick_state, endTick_op, endTick_addr] at hflight ho ⊢
    rcases hm.write_in_flight hflight ho with ⟨hflight', ho', haddr⟩ | ⟨v', htrace⟩
    · rw [← haddr]
      exact h.notInFlight hflight' ho'
    · rintro rfl
      refine hno v' ?_
      rw [endTick_trace, htrace, takeInput_trace, List.append_assoc, List.drop_left]
      exact List.mem_cons_self

/-- A step keeps the cell safe unless it accepts a WRITE_BYTE to it (R24, R57, R59). -/
theorem CellSafe.step {a : Half} {v : Byte} (h : CellSafe a v s) (hstep : step s = .next t)
    (hno : ∀ v', Event.accept 3#2 a false v' ∉ t.trace.drop s.trace.length) : CellSafe a v t where
  inv := stepKeepsTheInvariant s t h.inv hstep
  holds := by
    obtain ⟨-, hdev⟩ := inv_iff.mp h.inv
    obtain ⟨hwf, -⟩ := hdev.mem
    rw [← h.holds]
    by_contra hne
    obtain ⟨p, hp, haddr, -⟩ := cellChangesOnlyWhenItsWriteCommits s t a.toNat hwf hstep hne
    exact h.notPending p hp haddr
  notPending := h.notPending_step hstep
  notInFlight := h.notInFlight_step hstep hno

/-- So does a run (R58). -/
theorem CellSafe.run {a : Half} {v : Byte} {n : Nat} (h : CellSafe a v s) (hrun : run n s = .next t)
    (hno : ∀ v', Event.accept 3#2 a false v' ∉ t.trace.drop s.trace.length) : CellSafe a v t := by
  induction n generalizing s with
  | zero =>
    cases hrun
    exact h
  | succ n ih =>
    obtain ⟨s', hstep, hrest⟩ := run_succ_next hrun
    obtain ⟨-, es, hes⟩ := configurationIsFixedAndTraceGrows s s' hstep
    obtain ⟨es', hes'⟩ := trace_of_run hrest
    have hall : t.trace.drop s.trace.length = es ++ es' := by
      rw [hes', hes, List.append_assoc, List.drop_left]
    have hfirst : s'.trace.drop s.trace.length = es := by rw [hes, List.drop_left]
    have hlater : t.trace.drop s'.trace.length = es' := by rw [hes', List.drop_left]
    rw [hall] at hno
    refine ih (h.step hstep fun v' hmem => ?_) hrest fun v' hmem => ?_
    · rw [hfirst] at hmem
      exact hno v' (List.mem_append_left es' hmem)
    · rw [hlater] at hmem
      exact hno v' (List.mem_append_right es hmem)

/-- A WRITE_BYTE that is done leaves its cell safe, with the byte written (R58, R140). -/
theorem cellSafe_wrbWhole {a : Half} {v : Byte} (h : s.Inv) (hready : s.ReadyFor (.wrb a v))
    (hrun : Machine.run (busyTicks s.cfg (.wrb a v) + 1) s = .next (wrbWhole a v s)) :
    CellSafe a v (wrbWhole a v s) where
  inv := inv_of_run h hrun
  holds := by
    obtain ⟨-, hdev⟩ := inv_iff.mp h
    obtain ⟨hwf, -⟩ := hdev.mem
    exact read_write_same hwf a.toNat v
  notPending := by
    rw [show (wrbWhole a v s).pending = none from hready.nothingPending]
    exact nofun
  notInFlight := fun hflight => absurd hready.idle hflight.1

/-- Settles O57: the write's ticks lead to its one-step form, which leaves the cell safe; the run in between keeps it
so; and the read's ticks then sample it. (The premise on resets is not needed: a reset in mid-write
writes to the cell of the request in flight, which is another one.) -/
theorem writtenByteIsReadBack : Obligations.WrittenByteIsReadBack := by
  intro s s2 a v m hinv hready hr hacc hrun _ hno hread
  have hwrite := (leads_wrb hready hr).run (hready.undisturbed (.inr hr))
  have hsafe := (cellSafe_wrbWhole hinv hready hwrite).run hrun hno
  have hcfg : s2.cfg = (wrbWhole a v s).cfg := cfg_of_run hrun
  have hreads := (leads_rdb hread (by rw [hcfg]; exact hacc)).run (hread.undisturbed (.inl hread.nothingPending))
  exact ⟨hwrite, _, hreads, hread.idle, rfl, hsafe.holds⟩

end Sys2Proof.Machine
end

section
/-! A request word as its fields, and the decoder as the encoder's inverse (R71, R73, R74). -/

namespace Sys2Proof

/-! ### The fields of a word -/

/-- The five fields cover the word: words that agree in each of them are one word (R71). -/
theorem word_eq_of_fields {w w' : Word} (hop : opField w = opField w') (hrsv : rsvField w = rsvField w')
    (he : enableField w = enableField w') (ha : addrField w = addrField w')
    (hv : valueField w = valueField w') : w = w' := by
  apply BitVec.eq_of_getLsbD_eq
  intro i hi
  have hfield : i < 8 ∨ (8 ≤ i ∧ i < 24) ∨ i = 24 ∨ (25 ≤ i ∧ i < 30) ∨ 30 ≤ i := by omega
  rcases hfield with h | ⟨h, h'⟩ | rfl | ⟨h, h'⟩ | h
  · simpa [valueField, h] using congrArg (·.getLsbD i) hv
  · simpa [addrField, show i - 8 < 16 by omega, Nat.add_sub_cancel' h] using congrArg (·.getLsbD (i - 8)) ha
  · exact he
  · simpa [rsvField, show i - 25 < 5 by omega, Nat.add_sub_cancel' h] using congrArg (·.getLsbD (i - 25)) hrsv
  · simpa [opField, show i - 30 < 2 by omega, Nat.add_sub_cancel' h] using congrArg (·.getLsbD (i - 30)) hop

/-- Packing a word's own fields gives the word back, but for RSV, which packs as 0 (R71). -/
theorem packWord_fields {w : Word} (hrsv : rsvField w = 0#5) :
    packWord (opField w) (enableField w) (addrField w) (valueField w) = w := by
  obtain ⟨hop, hr, he, ha, hv⟩ := fields_packWord (opField w) (enableField w) (addrField w) (valueField w)
  exact word_eq_of_fields hop (hr.trans hrsv.symm) he ha hv

@[simp] theorem opField_and (w m : Word) : opField (w &&& m) = opField w &&& opField m :=
  BitVec.extractLsb'_and

@[simp] theorem rsvField_and (w m : Word) : rsvField (w &&& m) = rsvField w &&& rsvField m :=
  BitVec.extractLsb'_and

@[simp] theorem enableField_and (w m : Word) :
    enableField (w &&& m) = (enableField w && enableField m) :=
  BitVec.getLsbD_and

@[simp] theorem addrField_and (w m : Word) : addrField (w &&& m) = addrField w &&& addrField m :=
  BitVec.extractLsb'_and

@[simp] theorem valueField_and (w m : Word) : valueField (w &&& m) = valueField w &&& valueField m :=
  BitVec.extractLsb'_and

/-- A match under a mask is a match of each field under the mask's field (R72). -/
theorem and_eq_iff_fields {w m c : Word} :
    w &&& m = c ↔
      opField w &&& opField m = opField c ∧ rsvField w &&& rsvField m = rsvField c ∧
      (enableField w && enableField m) = enableField c ∧
      addrField w &&& addrField m = addrField c ∧ valueField w &&& valueField m = valueField c := by
  constructor
  · rintro rfl
    simp
  · rintro ⟨hop, hrsv, he, ha, hv⟩
    exact word_eq_of_fields (by simpa using hop) (by simpa using hrsv) (by simpa using he)
      (by simpa using ha) (by simpa using hv)

/-- The bits of R72's `legal(w)`, one by one. -/
theorem legalWord_iff {w : Word} :
    legalWord w = true ↔
      opField w ≠ 0#2 ∧ rsvField w = 0#5 ∧ (opField w = 1#2 ∨ enableField w = false) ∧
      (opField w = 3#2 ∨ valueField w = 0#8) := by
  simp [legalWord, and_assoc]

/-- A legal word's OP is that of one of the three requests (R72, R79). -/
theorem opField_of_legal {w : Word} (h : legalWord w = true) :
    opField w = 1#2 ∨ opField w = 2#2 ∨ opField w = 3#2 := by
  obtain ⟨hop, -⟩ := legalWord_iff.mp h
  generalize opField w = o at hop ⊢
  revert o
  decide

/-! ### Decoding and encoding -/

/-- The decoder reads the encoder's words (R71, R74). -/
theorem decode_encode (i : Instr) : decode (encode i) = .ok i := by
  cases i with
  | setaddr a e =>
    obtain ⟨hop, hrsv, he, ha, hv⟩ := fields_packWord 1#2 e a 0#8
    simp [decode, encode, hop, hrsv, he, ha, hv]
  | rdb a =>
    obtain ⟨hop, hrsv, he, ha, hv⟩ := fields_packWord 2#2 false a 0#8
    simp [decode, encode, hop, hrsv, he, ha, hv]
  | wrb a v =>
    obtain ⟨hop, hrsv, he, ha, hv⟩ := fields_packWord 3#2 false a v
    simp [decode, encode, hop, hrsv, he, ha, hv]

/-- A word that decodes is the pack of its own fields, which are those of the request (R71, R73). -/
theorem encode_of_decode {w : Word} {i : Instr} (h : decode w = .ok i) : encode i = w := by
  obtain ⟨hlegal, hcases⟩ := decode_ok_cases h
  obtain ⟨-, hrsv, -, -⟩ := legalWord_iff.mp hlegal
  have hpack := packWord_fields hrsv
  rcases hcases with ⟨hop, hv, rfl⟩ | ⟨hop, he, hv, rfl⟩ | ⟨hop, he, rfl⟩
  · rwa [hop, hv] at hpack
  · rwa [hop, he, hv] at hpack
  · rwa [hop, he] at hpack

/-- Settles O1: each field of a packed word is what was packed, so the decoder's tests find the request's kind and
its operands. -/
theorem decodeOfEncodeIsTheRequest : Obligations.DecodeOfEncodeIsTheRequest :=
  fun i _ => decode_encode i

/-- Settles O2: a legal word has RSV = 0, and with it the fields that the decoder reads are the whole word. -/
theorem encodeOfDecodeIsTheWord : Obligations.EncodeOfDecodeIsTheWord :=
  fun _ _ => encode_of_decode

/-- Settles O4: the four legal words are those of the requests listed with them, and the decoder runs on the
other two. -/
theorem sampleWordsDecodeAsListed : Obligations.SampleWordsDecodeAsListed :=
  ⟨decode_encode (.setaddr 0x1234#16 true), decode_encode (.setaddr 0xFFFF#16 true),
    decode_encode (.rdb 0x7FFF#16), decode_encode (.wrb 0x7FFF#16 0xFF#8), by decide, by decide⟩

end Sys2Proof
end

section
/-! The legal words and the table of matches and masks (R72). -/

namespace Sys2Proof

variable {w : Word}

/-! ### Each request kind as a legal word with its OP -/

/-- The words that decode are the legal ones, and OP says to which request (R71 to R73). -/
theorem decode_eq_ok_iff {i : Instr} :
    decode w = .ok i ↔ legalWord w = true ∧
      ((opField w = 1#2 ∧ i = .setaddr (addrField w) (enableField w)) ∨
       (opField w = 2#2 ∧ i = .rdb (addrField w)) ∨
       (opField w = 3#2 ∧ i = .wrb (addrField w) (valueField w))) := by
  constructor
  · intro h
    obtain ⟨hlegal, ⟨hop, -, hi⟩ | ⟨hop, -, -, hi⟩ | ⟨hop, -, hi⟩⟩ := decode_ok_cases h
    · exact ⟨hlegal, .inl ⟨hop, hi⟩⟩
    · exact ⟨hlegal, .inr (.inl ⟨hop, hi⟩)⟩
    · exact ⟨hlegal, .inr (.inr ⟨hop, hi⟩)⟩
  · rintro ⟨hlegal, hkind⟩
    obtain ⟨-, hrsv, he, hv⟩ := legalWord_iff.mp hlegal
    rcases hkind with ⟨hop, rfl⟩ | ⟨hop, rfl⟩ | ⟨hop, rfl⟩ <;> simp_all [decode]

theorem decodes_setaddr_iff :
    (∃ a e, decode w = .ok (.setaddr a e)) ↔ legalWord w = true ∧ opField w = 1#2 := by
  simp [decode_eq_ok_iff]

theorem decodes_rdb_iff :
    (∃ a, decode w = .ok (.rdb a)) ↔ legalWord w = true ∧ opField w = 2#2 := by
  simp [decode_eq_ok_iff]

theorem decodes_wrb_iff :
    (∃ a v, decode w = .ok (.wrb a v)) ↔ legalWord w = true ∧ opField w = 3#2 := by
  simp [decode_eq_ok_iff]

theorem decodes_iff_legalWord : (∃ i, decode w = .ok i) ↔ legalWord w = true := by
  constructor
  · rintro ⟨i, h⟩
    obtain ⟨hlegal, -⟩ := decode_eq_ok_iff.mp h
    exact hlegal
  · intro hlegal
    rcases opField_of_legal hlegal with hop | hop | hop
    · exact ⟨_, decode_eq_ok_iff.mpr ⟨hlegal, .inl ⟨hop, rfl⟩⟩⟩
    · exact ⟨_, decode_eq_ok_iff.mpr ⟨hlegal, .inr (.inl ⟨hop, rfl⟩)⟩⟩
    · exact ⟨_, decode_eq_ok_iff.mpr ⟨hlegal, .inr (.inr ⟨hop, rfl⟩)⟩⟩

/-- What the decoder answers for an illegal word: an error (R73). -/
theorem decode_error_of_illegal (h : legalWord w ≠ true) : ∃ e, decode w = .error e := by
  cases hd : decode w with
  | ok i => exact absurd (decodes_iff_legalWord.mp ⟨i, hd⟩) h
  | error e => exact ⟨e, rfl⟩

/-! ### The rows of the table -/

/-- A mask that covers OP and RSV and leaves A free, as each of R72's does, asks for the match's OP, for RSV = 0, and
for E and V to be 0 where it covers them. -/
theorem and_eq_packWord_iff {m : Word} (op : BitVec 2) (hop : opField m = BitVec.allOnes 2)
    (hrsv : rsvField m = BitVec.allOnes 5) (ha : addrField m = 0#16) :
    w &&& m = packWord op false 0#16 0#8 ↔
      opField w = op ∧ rsvField w = 0#5 ∧ (enableField w && enableField m) = false ∧
      valueField w &&& valueField m = 0#8 := by
  obtain ⟨cop, crsv, ce, ca, cv⟩ := fields_packWord op false 0#16 0#8
  rw [and_eq_iff_fields, hop, hrsv, ha, cop, crsv, ce, ca, cv]
  simp only [BitVec.and_allOnes, BitVec.and_zero, true_and]

/-- SET_ADDRESS's row leaves E and A free (R72). -/
theorem matches_setaddr_iff :
    w &&& 0xFE0000FF#32 = 0x40000000#32 ↔ legalWord w = true ∧ opField w = 1#2 := by
  rw [show 0x40000000#32 = packWord 1#2 false 0#16 0#8 by decide,
    and_eq_packWord_iff _ (by decide) (by decide) (by decide),
    show enableField 0xFE0000FF#32 = false by decide,
    show valueField 0xFE0000FF#32 = BitVec.allOnes 8 by decide, BitVec.and_allOnes, legalWord_iff]
  by_cases hop : opField w = 1#2 <;> simp [hop]

/-- READ_BYTE's row leaves A free (R72). -/
theorem matches_rdb_iff :
    w &&& 0xFF0000FF#32 = 0x80000000#32 ↔ legalWord w = true ∧ opField w = 2#2 := by
  rw [show 0x80000000#32 = packWord 2#2 false 0#16 0#8 by decide,
    and_eq_packWord_iff _ (by decide) (by decide) (by decide),
    show enableField 0xFF0000FF#32 = true by decide,
    show valueField 0xFF0000FF#32 = BitVec.allOnes 8 by decide, BitVec.and_allOnes, legalWord_iff]
  by_cases hop : opField w = 2#2 <;> simp [hop]

/-- WRITE_BYTE's row leaves A and V free (R72). -/
theorem matches_wrb_iff :
    w &&& 0xFF000000#32 = 0xC0000000#32 ↔ legalWord w = true ∧ opField w = 3#2 := by
  rw [show 0xC0000000#32 = packWord 3#2 false 0#16 0#8 by decide,
    and_eq_packWord_iff _ (by decide) (by decide) (by decide),
    show enableField 0xFF000000#32 = true by decide,
    show valueField 0xFF000000#32 = 0#8 by decide, legalWord_iff]
  by_cases hop : opField w = 3#2 <;> simp [hop]

/-- `(w & mask) == match` (R72). -/
theorem OpcodeRow.matches_iff {r : OpcodeRow} : r.matches w = true ↔ w &&& r.mask = r.word :=
  beq_iff_eq

/-- A word is legal exactly when a row matches it (R72). -/
theorem legalWord_iff_row : legalWord w = true ↔ ∃ r ∈ opcodeRows, r.matches w = true := by
  simp only [opcodeRows, List.exists_mem_cons_iff, List.not_mem_nil, OpcodeRow.matches_iff,
    matches_setaddr_iff, matches_rdb_iff, matches_wrb_iff]
  constructor
  · intro hlegal
    simpa [hlegal] using opField_of_legal hlegal
  · rintro (⟨hlegal, -⟩ | ⟨hlegal, -⟩ | ⟨hlegal, -⟩ | ⟨_, hnone, -⟩)
    · exact hlegal
    · exact hlegal
    · exact hlegal
    · exact hnone.elim

/-- Every row's mask covers OP, so a row matches only words with its own OP (R72). -/
theorem opField_of_matches {r : OpcodeRow} (hr : r ∈ opcodeRows) (h : r.matches w = true) :
    opField r.word = opField w := by
  have hmask : ∀ r ∈ opcodeRows, opField r.mask = BitVec.allOnes 2 := by decide
  rw [← OpcodeRow.matches_iff.mp h, opField_and, hmask r hr, BitVec.and_allOnes]

/-- No word matches two rows, for the rows differ in OP (R72). -/
theorem row_unique {r r' : OpcodeRow} (hr : r ∈ opcodeRows) (hr' : r' ∈ opcodeRows)
    (h : r.matches w = true) (h' : r'.matches w = true) : r = r' := by
  have hops : ∀ r ∈ opcodeRows, ∀ r' ∈ opcodeRows, opField r.word = opField r'.word → r = r' := by decide
  exact hops r hr r' hr' ((opField_of_matches hr h).trans (opField_of_matches hr' h').symm)

namespace Machine

/-- An illegal word that IDLE takes ends the tick in its fault entry (R72, R152, R155). -/
theorem step_illegal {s : State} (hv : s.cfg.valid = true) (hd : s.deviceStuck = false) (hs : s.state = .idle)
    (hr : s.input.reset = false) (hq : s.input.reqValid = true) (hw : legalWord s.input.reqWord ≠ true) :
    step s = .next (endTick s.pending (acceptIllegal s.input.reqWord s.takeInput)) := by
  obtain ⟨e, he⟩ := decode_error_of_illegal hw
  rcases portAction_cases s.input s.takeInput with ⟨hno | hno, -⟩ | ⟨-, -, ⟨i, hi, -⟩ | ⟨_, -, hport⟩⟩
  · exact absurd hs hno
  · simp [hq] at hno
  · simp [he] at hi
  · exact step_eq_next.mpr ⟨hv, .inr (.inr ⟨hr, hd, _, hport, rfl⟩)⟩

end Machine

/-- Settles O3: a word of each kind, a match of its row, and a legal word with its OP are the same; the rows differ in
OP; and what is not legal takes the decoder's error arm to fault entry. -/
theorem decodesExactlyTheLegalWords : Obligations.DecodesExactlyTheLegalWords := by
  intro w legal
  have hlegal : legalWord w = true ↔ legal := legalWord_iff
  refine ⟨decodes_iff_legalWord.trans hlegal, decodes_setaddr_iff.trans matches_setaddr_iff.symm,
    decodes_rdb_iff.trans matches_rdb_iff.symm, decodes_wrb_iff.trans matches_wrb_iff.symm,
    hlegal.symm.trans legalWord_iff_row, fun r hr r' hr' => row_unique hr hr', ?_⟩
  intro hnot s hv hd hs hin
  have hstep := Machine.step_illegal hv hd hs (by rw [hin]) (by rw [hin])
    (by rw [hin]; exact fun h => hnot (hlegal.mp h))
  exact ⟨_, hstep, by simp, by simp [Machine.illegalRequest]⟩

end Sys2Proof
end

section
/-! The assembly terms: what the pseudo-instructions expand to, and which terms assemble (R80). -/

namespace Sys2Proof

namespace Machine

/-! ### Expansion -/

/-- The k-th request up to `n` is the one made from address k (R80, DUMP and ERASE). -/
theorem requestsUpTo_eq_map (f : Half → Instr) (n : Nat) :
    requestsUpTo f n = (List.range n).map (fun k => f (BitVec.ofNat 16 k)) := by
  induction n with
  | zero => rfl
  | succ n ih => rw [requestsUpTo, ih, List.range_succ, List.map_append, List.map_singleton]

@[simp] theorem length_requestsUpTo (f : Half → Instr) (n : Nat) : (requestsUpTo f n).length = n := by
  simp [requestsUpTo_eq_map]

theorem getElem?_requestsUpTo (f : Half → Instr) {n k : Nat} (hk : k < n) :
    (requestsUpTo f n)[k]? = some (f (BitVec.ofNat 16 k)) := by
  simp [requestsUpTo_eq_map, hk]

/-- The k-th request of a block from address `a` on writes the k-th byte to address `a + k` (R80, WRBLK). -/
theorem writeBlock_eq_mapIdx (bs : List Nat) (a : Nat) :
    writeBlock a bs = bs.mapIdx (fun k b => .wrb (BitVec.ofNat 16 (a + k)) (BitVec.ofNat 8 b)) := by
  induction bs generalizing a with
  | nil => rfl
  | cons b bs ih => simp [writeBlock, ih, List.mapIdx_cons, Nat.add_assoc, Nat.add_comm 1]

/-- Settles O58: DUMP and ERASE are a map over the addresses 0 to m, WRBLK an indexed map over its bytes. -/
theorem pseudoInstructionsExpand : Obligations.PseudoInstructionsExpand := by
  refine ⟨fun m k _ hk => ?_, fun m => ?_, fun bs k b hb => ?_, fun bs => ?_⟩
  · have hlt : k < m + 1 := Nat.lt_succ_of_le hk
    exact ⟨getElem?_requestsUpTo _ hlt, getElem?_requestsUpTo _ hlt⟩
  · exact ⟨length_requestsUpTo _ _, length_requestsUpTo _ _⟩
  · simp [expand, writeBlock_eq_mapIdx, hb]
  · simp [expand, writeBlock_eq_mapIdx]

end Machine

/-! ### Operand ranges -/

theorem Source.addrOk_iff {n : Nat} : Source.addrOk n = true ↔ n ≤ 65535 := by
  rw [Source.addrOk, decide_eq_true_eq]
  omega

theorem Source.oeOk_iff {n : Nat} : Source.oeOk n = true ↔ n ≤ 1 := by
  rw [Source.oeOk, decide_eq_true_eq]
  omega

theorem Source.valueOk_iff {n : Nat} : Source.valueOk n = true ↔ n ≤ 255 := by
  rw [Source.valueOk, decide_eq_true_eq]
  omega

/-- Settles O59: a term assembles exactly when it is well formed, which is when each operand is in its range. -/
theorem operandsOutOfRangeDoNotAssemble : Obligations.OperandsOutOfRangeDoNotAssemble := by
  intro a e v
  simp only [Machine.assembleSource, Source.wellFormed, Bool.and_eq_true, Source.addrOk_iff, Source.oeOk_iff,
    Source.valueOk_iff, Machine.expand, and_self]

end Sys2Proof
end

section
/-! The address message (R101 to R104): its frames, the acceptance of a SET_ADDRESS, and the SHIFT and LATCH ticks that
every request shares. -/

namespace Sys2Proof.Machine

/-! ### The frames (R101, R102, R108) -/

/-- Frame 1 is the high byte of the frames (R101). -/
theorem extractLsb'_frames_high (a : Half) (e : Bool) : (frames a e).extractLsb' 8 8 = frame1 a e :=
  BitVec.extractLsb'_append_eq_left

/-- Frame 2 is the low byte of the frames (R101). -/
theorem extractLsb'_frames_low (a : Half) (e : Bool) : (frames a e).extractLsb' 0 8 = frame2 a :=
  BitVec.extractLsb'_append_eq_right

/-- R101's equivalent form, OE_n above the address's low 15 bits. -/
theorem frames_eq_append (a : Half) (e : Bool) :
    frames a e = BitVec.ofBool (a.getLsbD 15 || !e) ++ a.extractLsb' 0 15 := by
  refine BitVec.eq_of_getLsbD_eq fun i hi => ?_
  have happend := @BitVec.getLsbD_append 1 15 i (BitVec.ofBool (a.getLsbD 15 || !e)) (a.extractLsb' 0 15)
  rw [getLsbD_frames]
  refine Eq.trans ?_ happend.symm
  by_cases h15 : i = 15
  · simp [h15]
  · have hlow : i < 15 := by omega
    simp [h15, hlow]

/-- A read sends the address as it is (R102). -/
theorem frames_enabled (a : Half) : frames a true = a := by
  refine BitVec.eq_of_getLsbD_eq fun i _ => ?_
  rw [getLsbD_frames, Bool.not_true, Bool.or_false]
  split
  · next h15 => rw [h15]
  · rfl

/-- A write sends the address with bit 15 set (R102). -/
theorem frames_disabled (a : Half) : frames a false = a ||| 0x8000#16 := by
  refine BitVec.eq_of_getLsbD_eq fun i _ => ?_
  have hmask : (0x8000#16).getLsbD i = decide (15 = i) := by
    rw [show 0x8000#16 = BitVec.twoPow 16 15 by decide, BitVec.getLsbD_twoPow]
    rfl
  rw [getLsbD_frames, BitVec.getLsbD_or, hmask]
  by_cases h15 : i = 15
  · simp [h15]
  · simp [h15, Ne.symm h15]

/-- Settles O5: the two frames are the two bytes of their concatenation, and bit by bit it is the equivalent form. -/
theorem framesFollowTheFormula : Obligations.FramesFollowTheFormula :=
  fun a e => ⟨extractLsb'_frames_high a e, extractLsb'_frames_low a e, frames_eq_append a e⟩

/-- Settles O6: with what a read and a write send, the aliases are the idempotence of setting bit 15. -/
theorem framesAliasAboveTheAddressRange : Obligations.FramesAliasAboveTheAddressRange := by
  refine fun a => ⟨frames_enabled a, frames_disabled a, fun e h15 => ?_, ?_, ?_⟩
  · rw [getLsbD_frames, if_pos rfl, h15, Bool.true_or]
  · rw [frames_enabled, frames_disabled]
  · rw [frames_disabled, frames_disabled, BitVec.or_assoc, BitVec.or_self]

/-! ### The acceptance of a SET_ADDRESS (R100, R125, R157) -/

/-- Frames do not contend when they disable the device or the controller does not drive (R157). -/
theorem wouldContend_eq_false_iff {f : Half} {s : State} :
    wouldContend f s = false ↔ f.getLsbD 15 = true ∨ s.ddir = .input := by
  cases hd : s.ddir <;> simp [wouldContend, hd]

/-- Settles O15: with its one check passed the acceptance captures the fields and loads the frames. -/
theorem setaddrIsAccepted : Obligations.SetaddrIsAccepted := by
  intro a e s hs hok
  rw [exec_idle _ hs, acceptOf_setaddr (wouldContend_eq_false_iff.mpr hok)]

/-- Settles O18: an enabled address with bit 15 clear sends a frame bit 15 of 0, and the acceptance is a fault entry. -/
theorem setaddrAgainstTheDriverRaisesBusContention :
    Obligations.SetaddrAgainstTheDriverRaisesBusContention := by
  intro a s hs hd h15
  have hcontend : wouldContend (frames a true) s = true := by
    rw [wouldContend, frames_enabled, h15, hd]
    rfl
  rw [exec_idle _ hs]
  rcases acceptSetaddr_cases a true s with ⟨-, he⟩ | ⟨hno, -⟩
  · rw [acceptOf, he]
    simp [raiseFault, State.emit, busContention]
  · exact absurd (hcontend.symm.trans hno) (by decide)

/-! ### SHIFT (R103) -/

/-- A tick of SHIFT without RESET, over a device that takes steps (R103). -/
theorem step_shift {s : State} (hv : s.cfg.valid = true) (hr : s.input.reset = false)
    (hd : s.deviceStuck = false) (hs : s.state = .shift) :
    step s = .next (endTick s.pending (shiftTick s.takeInput)) :=
  step_own hv hr hd (by simp [hs]) (by simp only [ownAction, takeInput_state, hs])

/-- Settles O24: the last SHIFT tick and the others each shift the bit that IDX names. -/
theorem shiftTickShiftsOneFrameBit : Obligations.ShiftTickShiftsOneFrameBit := by
  intro s hv hr hd hs b
  have hstep := step_shift hv hr hd hs
  rw [shiftTick_eq] at hstep
  rw [hstep]
  by_cases hlast : s.idx.toNat = 15
  · have hidx : s.idx = 15#4 := BitVec.eq_of_toNat_eq hlast
    simp [hidx, b, frameBit, shiftIn16]
  · have hidx : s.idx ≠ 15#4 := fun h => hlast (congrArg BitVec.toNat h)
    simp [hidx, hlast, hs, b, frameBit, shiftIn16]

/-! ### LATCH, the one writer of OUT (R104, R107) -/

/-- OUT is written by the moves of LATCH only, which copy SR to it (R29, R104). -/
theorem Moves.out_cases {inp : Input} {s u : State} (hm : Moves inp s u) :
    u.out = s.out ∨ (s.state = .latch ∧ u.out = s.sr) := by
  cases hm
  case latchSet hs _ | latchRead hs _ _ | latchWait hs _ _ | latchWrite hs _ => exact .inr ⟨hs, rfl⟩
  all_goals left; simp

/-- Settles O36: neither a reset nor a stuck tick nor the end of a tick writes OUT, so its writer is a move. -/
theorem pinsChangeOnlyAtLatch : Obligations.PinsChangeOnlyAtLatch := by
  intro s t h
  obtain ⟨-, ⟨-, rfl⟩ | ⟨-, -, rfl⟩ | ⟨hr, -, u, hm, rfl⟩⟩ := step_moves h
  · exact .inl (resetWholeTick_out s)
  · exact .inl rfl
  · rw [endTick_out]
    rcases hm.out_cases with hkeep | ⟨hs, hout⟩
    · exact .inl hkeep
    · exact .inr ⟨hs, hr, hout⟩

/-- A tick of LATCH without RESET, over a device that takes steps (R104). -/
theorem step_latch {s u : State} (hv : s.cfg.valid = true) (hr : s.input.reset = false)
    (hd : s.deviceStuck = false) (hs : s.state = .latch) (h : latchTick s.takeInput = .next u) :
    step s = .next (endTick s.pending u) :=
  step_own hv hr hd (by simp [hs]) (by simpa only [ownAction, takeInput_state, hs] using h)

/-- Settles O25: the LATCH tick by OP, and a writer of OUT is one. -/
theorem latchTickCommitsTheAddress : Obligations.LatchTickCommitsTheAddress := by
  constructor
  · intro s hv hr hd hs u
    refine ⟨fun ho => ?_, fun ho hz => ?_, fun ho hz => ?_, fun ho => ?_⟩
    · exact step_latch hv hr hd hs (latchTick_set (s := s.takeInput) ho)
    · have htick := latchTick_read (s := s.takeInput) ho
      rw [enterRead_now (s := latchPulse s.takeInput) hz] at htick
      exact step_latch hv hr hd hs htick
    · have htick := latchTick_read (s := s.takeInput) ho
      rw [enterRead_wait (s := latchPulse s.takeInput) hz] at htick
      exact step_latch hv hr hd hs htick
    · exact step_latch hv hr hd hs (latchTick_write (s := s.takeInput) ho)
  · intro s t h hne
    obtain ⟨hs, hr, -⟩ := (pinsChangeOnlyAtLatch s t h).resolve_left hne
    exact ⟨hs, hr⟩

end Sys2Proof.Machine
end

section
/-! The single ticks of the sequencer (R120, R124 to R138): what one step does in IDLE, with and without a request, and
in each state of a request. -/

namespace Sys2Proof.Machine

variable {s : State}

/-! ### The port (R120, R126) -/

/-- A tick without RESET under a valid configuration, over a device that takes steps, is the port's action and the end of
the tick (R120). -/
theorem step_port (hv : s.cfg.valid = true) (hr : s.input.reset = false) (hd : s.deviceStuck = false) :
    step s = onNext (portAction s.input s.takeInput) (endTick s.pending) := by
  rw [step, if_pos hv, tick, hr, hd]
  rfl

/-- Outside IDLE no request is taken: each means the state's own action (R126). -/
theorem exec_own (i : Instr) (hs : s.state ≠ .idle) : exec i s = ownAction s := by
  cases i <;> exact if_neg hs

/-- Settles O12. -/
theorem requestOutsideIdleIsNotAccepted : Obligations.RequestOutsideIdleIsNotAccepted :=
  fun i _ hs => exec_own i hs

/-- Settles O8: the port's action on a word that decodes is that request's meaning. -/
theorem stepRunsTheDecodedRequest : Obligations.StepRunsTheDecodedRequest := by
  intro s i hv hr hd hq hi _
  have hport : portAction s.input s.takeInput = exec i s.takeInput := by
    rw [portAction, if_pos hq, hi]
  rw [step_port hv hr hd, hport]

/-- Outside IDLE a tick without RESET reads nothing of the port (R120, R126). -/
theorem step_busy (hr : s.input.reset = false) (hs : s.state ≠ .idle) :
    step s =
      if s.cfg.valid then
        if s.deviceStuck then .next (stuckTick s) else onNext (ownAction s.takeInput) (endTick s.pending)
      else .refused .invalidConfig := by
  rw [step, tick, hr, portAction_own (s := s.takeInput) hs]
  rfl

/-- Settles O11: both ticks are what the state alone makes of them. -/
theorem busyTickIgnoresTheRequest : Obligations.BusyTickIgnoresTheRequest := by
  intro s v w rest hs
  have hbusy (inp : Input) (hr : inp.reset = false) := step_busy (s := { s with inputs := inp :: rest }) hr hs
  exact (hbusy ⟨false, v, w⟩ rfl).trans (hbusy Input.quiet rfl).symm

/-- Settles O10: the action of such a tick changes nothing, and its end notes no Contend event. -/
theorem idleTickWithoutRequestOnlyCountsDown : Obligations.IdleTickWithoutRequestOnlyCountsDown := by
  intro s hv hr hq hs hn
  refine ⟨?_, by simp [State.ready, hs]⟩
  cases hd : s.deviceStuck
  · have hport : portAction s.input s.takeInput = .next s.takeInput := by
      simp [portAction, hq, ownAction, hs]
    have hquiet : (s.takeInput.settle s.pending).contending = false := by
      simpa [State.contending, State.oeN] using hn
    rw [step_port hv hr hd, hport, onNext_next, endTick, noteContention_quiet hquiet]
  · rw [step_stuck hv hr hd, stuckTick_eq, settle_of_stuck (s := s.takeInput) hd]

/-! ### Acceptance (R125) -/

/-- An IDLE tick that presents a word of request `i` accepts it (R125). -/
theorem step_accept {i : Instr} (hv : s.cfg.valid = true) (hr : s.input.reset = false)
    (hd : s.deviceStuck = false) (hs : s.state = .idle) (hq : s.input.reqValid = true)
    (hi : decode s.input.reqWord = .ok i) :
    step s = .next (endTick s.pending (acceptOf i s.takeInput)) := by
  rw [step_port hv hr hd, portAction_accept (s := s.takeInput) hs hq hi, onNext_next]

/-- Settles O16: with its one check passed the acceptance captures the fields. -/
theorem rdbIsAccepted : Obligations.RdbIsAccepted := by
  intro a s hs hok
  rw [exec_idle _ hs, acceptOf_rdb hok]

/-- Settles O17, as for a READ_BYTE. -/
theorem wrbIsAccepted : Obligations.WrbIsAccepted := by
  intro a v s hs hok
  rw [exec_idle _ hs, acceptOf_wrb hok]

/-- The check of a SET_ADDRESS, as R157 writes it. -/
theorem wouldContend_iff {f : Half} : wouldContend f s = true ↔ f.getLsbD 15 = false ∧ s.ddir = .output := by
  simp [wouldContend]

/-- Settles O14: an illegal word enters FAULT, and a legal one is a request whose checks are those of the rule. -/
theorem acceptanceFollowsTheRule : Obligations.AcceptanceFollowsTheRule := by
  intro s w hv hd hs hin op a e v s1 raise
  have hr : s.input.reset = false := by rw [hin]
  have hq : s.input.reqValid = true := by rw [hin]
  by_cases hlegal : legalWord w = true
  · obtain ⟨i, hi⟩ := decodes_iff_legalWord.mpr hlegal
    rw [step_accept hv hr hd hs hq (by rw [hin]; exact hi), if_neg (by simp [hlegal])]
    refine congrArg (fun t => Host.Outcome.next (endTick s.pending t)) ?_
    obtain ⟨-, ⟨hop, hv0, rfl⟩ | ⟨hop, he0, hv0, rfl⟩ | ⟨hop, he0, rfl⟩⟩ := decode_ok_cases hi
    · have hop' : op = 1#2 := hop
      have hv' : v = 0#8 := hv0
      rw [if_pos hop']
      refine if_congr wouldContend_iff ?_ ?_ <;> simp only [raise, s1, hop', hv'] <;> rfl
    · have hop' : op = 2#2 := hop
      have he' : e = false := he0
      have hv' : v = 0#8 := hv0
      rw [if_neg (by simp [hop']), if_pos hop']
      refine if_congr Iff.rfl ?_ ?_ <;> simp only [raise, s1, hop', he', hv'] <;> rfl
    · have hop' : op = 3#2 := hop
      have he' : e = false := he0
      rw [if_neg (by simp [hop']), if_neg (by simp [hop'])]
      refine if_congr Iff.rfl ?_ ?_ <;> simp only [raise, s1, hop', he'] <;> rfl
  · rw [step_illegal hv hd hs hr hq (by rw [hin]; exact hlegal), hin, if_pos (by simpa using hlegal)]
    rfl

/-! ### The states of a request (R121, R130, R133, R135, R136) -/

/-- Settles O26. -/
theorem dirInTickReleasesTheBus : Obligations.DirInTickReleasesTheBus := by
  intro s hv hr hd hs
  have hown : ownAction s.takeInput = .next (dirInTick s.takeInput) := by simp [ownAction, hs]
  rw [step_own hv hr hd (by simp [hs]) hown, dirInTick_eq]
  rfl

/-- Settles O29. -/
theorem dirOutTickTakesTheBus : Obligations.DirOutTickTakesTheBus := by
  intro s hv hr hd hs
  have hown : ownAction s.takeInput = .next (dirOutTick s.takeInput) := by simp [ownAction, hs]
  rw [step_own hv hr hd (by simp [hs]) hown, dirOutTick_eq]
  rfl

/-- A tick of DONE without RESET, over a device that takes steps (R133). -/
theorem step_done (hv : s.cfg.valid = true) (hr : s.input.reset = false) (hd : s.deviceStuck = false)
    (hs : s.state = .done) : step s = .next (endTick s.pending (doneTick s.takeInput)) :=
  step_own hv hr hd (by simp [hs]) (by simp [ownAction, hs])

/-- Settles O28. -/
theorem doneTickReportsTheRequest : Obligations.DoneTickReportsTheRequest := by
  intro s hv hr hd hs
  refine ⟨by simp [State.isDone, hs], ?_⟩
  rw [step_done hv hr hd hs, doneTick_eq]
  rfl

/-- Settles O30: the tick sets one bit of DOUT, and IDX tells the last drive step from the others. -/
theorem driveTickSetsOneDataLine : Obligations.DriveTickSetsOneDataLine := by
  intro s hv hr hd hs hk
  have hown : ownAction s.takeInput = wrDriveTick s.takeInput := by simp [ownAction, hs]
  have hstep {u : State} (h : wrDriveTick s.takeInput = .next u) :=
    step_own hv hr hd (by simp [hs]) (hown.trans h)
  refine ⟨setBit8 s.dout s.idx.toNat (s.data.getLsbD s.idx.toNat), fun j hj => ?_, fun hlt => ?_, fun h7 => ?_⟩
  · rw [getLsbD_setBit8 _ _ hj]
    exact if_ctx_congr Iff.rfl (fun hji => by rw [hji]) fun _ => rfl
  · exact hstep (wrDriveTick_on (s := s.takeInput) hlt)
  · rw [hstep (wrDriveTick_last (s := s.takeInput) (BitVec.eq_of_toNat_eq h7)), h7, finishDrive_eq, driveBit_eq]
    simp

end Sys2Proof.Machine
end

section
/-! The timed states (R121, R122), and the stops of the model that no run meets (R120). -/

namespace Sys2Proof.Machine

variable {s : State}

/-! ### The timed states -/

/-- RD_WAIT, WR_WE_LOW or WR_SETTLE (R121). -/
abbrev State.timed (s : State) : Prop := s.state = .rdWait ∨ s.state = .wrWeLow ∨ s.state = .wrSettle

/-- The state that follows a timed one (R132, R137, R138). -/
def afterTimed (x : SeqState) : SeqState :=
  if x = .rdWait then .rdSample else if x = .wrWeLow then .wrSettle else .done

/-- The exit action of a timed state (R132, R137, R138). -/
def timedExit : SeqState → State → State
  | .rdWait, s => { s with idx := 0#4, state := .rdSample }
  | .wrWeLow, s => weLowExit s
  | _, s => { s with state := .done }

theorem timedExit_state (x : SeqState) (s : State) : (timedExit x s).state = afterTimed x := by
  cases x <;> simp [timedExit, afterTimed]

theorem timedTick_on (exit : State → State) (ht : s.timer ≠ 1#32) :
    timedTick exit s = { s with timer := s.timer - 1#32 } :=
  if_neg ht

theorem timedTick_last (exit : State → State) (ht : s.timer = 1#32) :
    timedTick exit s = exit { s with timer := 0#32 } := by
  rw [timedTick, if_pos ht, ht]
  rfl

/-- Each timed state's own action counts, with its exit action at the end (R121). -/
theorem ownAction_timed (hs : s.timed) : ownAction s = .next (timedTick (timedExit s.state) s) := by
  rcases hs with h | h | h <;> rw [ownAction, h] <;> rfl

/-- A tick of a timed state without RESET, over a device that takes steps (R121). -/
theorem step_timed (hv : s.cfg.valid = true) (hr : s.input.reset = false) (hd : s.deviceStuck = false)
    (hs : s.timed) : step s = .next (endTick s.pending (timedTick (timedExit s.state) s.takeInput)) := by
  refine step_own hv hr hd ?_ (ownAction_timed (s := s.takeInput) hs)
  rcases hs with h | h | h <;> simp [h]

theorem step_timed_on (hv : s.cfg.valid = true) (hr : s.input.reset = false) (hd : s.deviceStuck = false)
    (hs : s.timed) (ht : s.timer ≠ 1#32) :
    step s = .next (endTick s.pending { s.takeInput with timer := s.timer - 1#32 }) := by
  rw [step_timed hv hr hd hs, timedTick_on (s := s.takeInput) _ ht]
  rfl

theorem step_timed_last (hv : s.cfg.valid = true) (hr : s.input.reset = false) (hd : s.deviceStuck = false)
    (hs : s.timed) (ht : s.timer = 1#32) :
    step s = .next (endTick s.pending (timedExit s.state { s.takeInput with timer := 0#32 })) := by
  rw [step_timed hv hr hd hs, timedTick_last (s := s.takeInput) _ ht]

/-- A timed state with `n + 1` ticks to go, none of them a reset, over a device that takes steps. -/
structure State.Counting (n : Nat) (s : State) : Prop where
  configValid : s.cfg.valid = true
  deviceSteps : s.deviceStuck = false
  timed : s.timed
  timer : s.timer.toNat = n + 1
  notReset : s.noReset (n + 1)

/-- Before its last tick a timed state counts down by one, and stays (R121). -/
theorem State.Counting.step {n : Nat} (h : s.Counting (n + 1)) :
    ∃ t, step s = .next t ∧ t.state = s.state ∧ t.Counting n := by
  have hne : s.timer ≠ 1#32 := fun h1 => by simpa [h1] using h.timer
  have hpred := toNat_timer_pred (by rw [h.timer]; omega) hne
  have htimer := h.timer
  refine ⟨_, step_timed_on h.configValid (input_reset_of_noReset h.notReset) h.deviceSteps h.timed hne,
    by simp, by simpa using h.configValid, by simpa using h.deviceSteps, by simpa [State.timed] using h.timed, ?_, ?_⟩
  · simp only [endTick_timer]
    omega
  · exact noReset_drop (m := 1) (by rw [Nat.add_comm]; exact h.notReset) (by simp)

theorem State.Counting.run {n k : Nat} (h : s.Counting n) (hk : k ≤ n) :
    ∃ t, run k s = .next t ∧ t.state = s.state ∧ t.Counting (n - k) := by
  induction k generalizing s n with
  | zero => exact ⟨s, rfl, rfl, h⟩
  | succ k ih =>
    obtain ⟨m, rfl⟩ := Nat.exists_eq_add_of_le' (Nat.lt_of_lt_of_le (Nat.succ_pos k) hk)
    obtain ⟨s', hstep, hstate, hcount⟩ := h.step
    obtain ⟨t, hrun, hstate', hcount'⟩ := ih hcount (by omega)
    exact ⟨t, (run_succ k hstep).trans hrun, hstate'.trans hstate, by rwa [Nat.add_sub_add_right]⟩

/-- Settles O33: TIMER tells the last tick from the others, and counts down to it. -/
theorem timedStateLastsItsCount : Obligations.TimedStateLastsItsCount := by
  intro s hv hd hpos hreset hs
  obtain ⟨n, hn⟩ := Nat.exists_eq_add_of_le' hpos
  rw [hn] at hreset
  have hr := input_reset_of_noReset hreset
  have hcount : s.Counting n := ⟨hv, hd, hs, hn, hreset⟩
  rw [hn]
  refine ⟨fun k hk => ?_, ?_, step_timed_on hv hr hd hs, fun ht hw => ?_, fun ht hw => ?_⟩
  · obtain ⟨t, hrun, hstate, ht⟩ := hcount.run (Nat.le_of_lt_succ hk)
    exact ⟨t, hrun, hstate, by rw [ht.timer]; omega⟩
  · obtain ⟨t, hrun, hstate, ht⟩ := hcount.run (Nat.le_refl n)
    rw [Nat.sub_self] at ht
    have hstep := step_timed_last ht.configValid (input_reset_of_noReset ht.notReset) ht.deviceSteps ht.timed
      (BitVec.eq_of_toNat_eq ht.timer)
    refine ⟨_, (run_add 1 hrun).trans (run_succ 0 hstep), ?_⟩
    rw [endTick_state, ← hstate]
    exact timedExit_state _ _
  · rw [step_timed_last hv hr hd hs ht, hw]
    rfl
  · rw [step_timed_last hv hr hd hs ht, hw]
    rfl

/-! ### No run meets a stop (R120) -/

/-- The state's own action goes on where IDX and OP are as the invariant has them (R104, R131, R136). -/
theorem ownAction_next (hi : s.idxOk = true) (ho : s.opOk = true) : ∃ u, ownAction s = .next u := by
  cases hs : s.state
  case latch =>
    have hne : s.op ≠ 0#2 := by simpa [State.opOk, hs] using ho
    have hop : s.op = 1#2 ∨ s.op = 2#2 ∨ s.op = 3#2 := by
      generalize s.op = o at hne
      revert o
      decide
    rw [ownAction, hs]
    rcases hop with h | h | h
    · exact ⟨_, latchTick_set h⟩
    · exact ⟨_, latchTick_read h⟩
    · exact ⟨_, latchTick_write h⟩
  case rdSample =>
    have hk : s.idx.toNat ≤ 7 := by simpa [State.idxOk, hs] using hi
    rw [ownAction, hs]
    rcases Nat.lt_or_eq_of_le hk with hlt | h7
    · exact ⟨_, rdSampleTick_on hlt⟩
    · exact ⟨_, rdSampleTick_last (BitVec.eq_of_toNat_eq h7)⟩
  case wrDrive =>
    have hk : s.idx.toNat ≤ 7 := by simpa [State.idxOk, hs] using hi
    rw [ownAction, hs]
    rcases Nat.lt_or_eq_of_le hk with hlt | h7
    · exact ⟨_, wrDriveTick_on hlt⟩
    · exact ⟨_, wrDriveTick_last (BitVec.eq_of_toNat_eq h7)⟩
  all_goals exact ⟨_, by rw [ownAction, hs]⟩

/-- Settles O49: a reset and a stuck tick always answer, an acceptance does too, and the own actions do where the
invariant holds. -/
theorem stepIsTotalOnTheInvariant : Obligations.StepIsTotalOnTheInvariant := by
  intro s h hv
  cases hr : s.input.reset
  · cases hd : s.deviceStuck
    · rw [step_port hv hr hd]
      obtain ⟨hseq, -⟩ := inv_iff.mp h
      rcases portAction_cases s.input s.takeInput with ⟨-, hp⟩ | ⟨-, -, ⟨i, -, hp⟩ | ⟨e, -, hp⟩⟩
      · obtain ⟨u, hu⟩ := ownAction_next (s := s.takeInput) hseq.idx hseq.op
        exact ⟨_, by rw [hp, hu, onNext_next]⟩
      · exact ⟨_, by rw [hp, onNext_next]⟩
      · exact ⟨_, by rw [hp, onNext_next]⟩
    · exact ⟨_, step_stuck hv hr hd⟩
  · exact ⟨_, step_reset hv hr⟩

end Sys2Proof.Machine
end

section
/-! Whole requests: the ticks of a READ_BYTE and of a WRITE_BYTE lead to their one-step forms, which have the rows of the
transaction table (R139). -/

namespace Sys2Proof.Machine

/-- Settles O53: the phases of a READ_BYTE, over a device with nothing pending. -/
theorem rdbRunsToItsEffect : Obligations.RdbRunsToItsEffect :=
  fun _ _ h hacc => (leads_rdb h hacc).run (h.undisturbed (.inl h.nothingPending))

/-- Settles O54: the phases of a WRITE_BYTE, whose byte the device retains. -/
theorem wrbRunsToItsEffect : Obligations.WrbRunsToItsEffect :=
  fun _ _ _ h hr => (leads_wrb h hr).run (h.undisturbed (.inr hr))

/-- Settles O55: each column is a field of the one-step form, and the frames of a read and of a write are the address
without and with bit 15. -/
theorem oneStepFormsFollowTheTable : Obligations.OneStepFormsFollowTheTable := by
  intro s a e v
  have hread : (rdbWhole a s).out = a := frames_enabled a
  have hwrite : (wrbWhole a v s).out = a ||| 0x8000#16 := frames_disabled a
  exact ⟨⟨rfl, rfl, rfl, rfl, rfl, rfl⟩, ⟨rfl, hread, rfl, rfl, rfl, rfl⟩, ⟨rfl, hwrite, rfl, rfl, rfl, rfl⟩⟩

end Sys2Proof.Machine
end

section
/-! How long a request takes (R139, R141, R190): the ticks that it still needs to DONE are a function of the state, which
every tick takes one from. -/

namespace Sys2Proof

/-- The request kind that OP holds while the request is in flight (R71). -/
def Instr.opcode : Instr → BitVec 2
  | .setaddr _ _ => 1#2
  | .rdb _ => 2#2
  | .wrb _ _ => 3#2

theorem Instr.opcode_eq_write_iff {i : Instr} : i.opcode = 3#2 ↔ ∃ a v, i = .wrb a v := by
  cases i <;> simp [Instr.opcode]

namespace Machine

/-- The ticks from LATCH to DONE, by OP (R104, R190). -/
def State.latchToDone (s : State) : Nat :=
  if s.op = 1#2 then 1
  else if s.op = 2#2 then 9 + s.cfg.pReadSetupTicks
  else 9 + s.cfg.pWeTicks + s.cfg.pSettleTicks

theorem latchToDone_set {s : State} (ho : s.op = 1#2) : s.latchToDone = 1 := if_pos ho

theorem latchToDone_read {s : State} (ho : s.op = 2#2) : s.latchToDone = 9 + s.cfg.pReadSetupTicks := by
  simp [State.latchToDone, ho]

theorem latchToDone_write {s : State} (ho : s.op = 3#2) :
    s.latchToDone = 9 + s.cfg.pWeTicks + s.cfg.pSettleTicks := by
  simp [State.latchToDone, ho]

theorem latchToDone_pos (s : State) : 1 ≤ s.latchToDone := by
  unfold State.latchToDone
  split_ifs <;> omega

/-- The ticks that the request in flight needs to reach DONE (R139, R190). -/
def State.ticksToDone (s : State) : Nat :=
  match s.state with
  | .dirIn => 26 + s.cfg.pReadSetupTicks
  | .dirOut => 26 + s.cfg.pWeTicks + s.cfg.pSettleTicks
  | .shift => 16 - s.idx.toNat + s.latchToDone
  | .latch => s.latchToDone
  | .rdWait => s.timer.toNat + 8
  | .rdSample => 8 - s.idx.toNat
  | .wrDrive => 8 - s.idx.toNat + s.cfg.pWeTicks + s.cfg.pSettleTicks
  | .wrWeLow => s.timer.toNat + s.cfg.pSettleTicks
  | .wrSettle => s.timer.toNat
  | .done => 0
  | .idle => 0
  | .fault => 0

section
variable {inp : Input} {s u : State}

theorem toNat_timer_load {n : Nat} (h : n < 2 ^ 32) : (BitVec.ofNat 32 n).toNat = n := by
  rw [BitVec.toNat_ofNat, Nat.mod_eq_of_lt h]

/-- Every move of a request in flight brings it one tick nearer to DONE (R103, R104, R121, R130 to R138). -/
theorem Moves.ticksToDone (hm : Moves inp s u) (hv : s.cfg.valid = true) (hop : s.opOk = true) (ht : s.timerOk)
    (hs : s.inFlight) (hd : s.state ≠ .done) : u.ticksToDone + 1 = s.ticksToDone := by
  obtain ⟨-, -, -, -, -, hwe32, hsettle32, hread32⟩ := s.cfg.valid_iff.mp hv
  obtain ⟨hidle, hfault⟩ := hs
  obtain ⟨hwait, hlow, hsettle⟩ := ht
  cases hm
  case idle h _ | illegal h _ _ _ | contention h _ _ _ _ _ | readRange h _ _ _ _ | writeRange h _ _ _ _ _ |
      setaddr h _ _ _ _ _ | rdb h _ _ _ _ | wrb h _ _ _ _ _ => exact absurd h hidle
  case fault h => exact absurd h hfault
  case done h => exact absurd h hd
  case dirIn h =>
    have ho : s.op = 2#2 := by simpa [State.opOk, h] using hop
    have hshift : (dirInTick s).ticksToDone = 16 + (dirInTick s).latchToDone := rfl
    rw [hshift, latchToDone_read (s := dirInTick s) ho, dirInTick_eq]
    simp only [State.ticksToDone, h]
    omega
  case dirOut h =>
    have ho : s.op = 3#2 := by simpa [State.opOk, h] using hop
    have hshift : (dirOutTick s).ticksToDone = 16 + (dirOutTick s).latchToDone := rfl
    rw [hshift, latchToDone_write (s := dirOutTick s) ho, dirOutTick_eq]
    simp only [State.ticksToDone, h]
    omega
  case shiftOn h hk =>
    have hnext := toNat_idx_succ hk (Nat.le_refl 15)
    simp only [State.ticksToDone, State.latchToDone, shiftBit_eq, h, hnext]
    omega
  case shiftLast h hk =>
    simp only [State.ticksToDone, State.latchToDone, shiftBit_eq, h, hk, BitVec.toNat_ofNat]
    omega
  case latchSet h ho =>
    simp only [State.ticksToDone, h, latchToDone_set ho]
  case latchRead h ho hz =>
    simp only [State.ticksToDone, h, latchToDone_read ho, hz, BitVec.toNat_ofNat]
  case latchWait h ho hz =>
    simp only [State.ticksToDone, h, latchToDone_read ho, toNat_timer_load hread32]
    omega
  case latchWrite h ho =>
    simp only [State.ticksToDone, h, latchToDone_write ho, latchPulse_eq, BitVec.toNat_ofNat]
    omega
  case waitOn h hne =>
    have hpred := toNat_timer_pred (hwait h).1 hne
    simp only [State.ticksToDone, h]
    omega
  case waitLast h h1 => simp [State.ticksToDone, h, h1]
  case sampleOn h hk | driveOn h hk =>
    have hnext := toNat_idx_succ hk (by decide)
    simp only [State.ticksToDone, takeSample_eq, driveBit_eq, h, hnext]
    omega
  case sampleLast h hk => simp [State.ticksToDone, h, hk]
  case driveLast h hk =>
    simp only [State.ticksToDone, finishDrive_eq, driveBit_eq, h, hk, toNat_timer_load hwe32, BitVec.toNat_ofNat]
    omega
  case lowOn h hne =>
    have hpred := toNat_timer_pred (hlow h).1 hne
    simp only [State.ticksToDone, h]
    omega
  case lowLast h h1 =>
    simp only [State.ticksToDone, weLowExit_eq, h, h1, toNat_timer_load hsettle32, BitVec.toNat_ofNat]
    omega
  case settleOn h hne =>
    have hpred := toNat_timer_pred (hsettle h).1 hne
    simp only [State.ticksToDone, h]
    omega
  case settleLast h h1 => simp [State.ticksToDone, h, h1]

/-- A request in flight is in DONE exactly when it needs no more ticks (R133, R190). -/
theorem ticksToDone_eq_zero_iff (h : s.SequencerOk) (hs : s.inFlight) : s.ticksToDone = 0 ↔ s.state = .done := by
  obtain ⟨hidle, hfault⟩ := hs
  have hidx := h.idx
  obtain ⟨-, hlow, hsettle⟩ := h.timer
  cases hst : s.state <;> simp only [State.ticksToDone, hst, reduceCtorEq, iff_false]
  case idle => exact absurd hst hidle
  case fault => exact absurd hst hfault
  case shift =>
    have := s.idx.isLt
    omega
  case latch =>
    have := latchToDone_pos s
    omega
  case rdSample | wrDrive =>
    have hk : s.idx.toNat ≤ 7 := by simpa [State.idxOk, hst] using hidx
    omega
  case wrWeLow =>
    have := hlow hst
    omega
  case wrSettle =>
    have := hsettle hst
    omega
  all_goals omega

/-- A request in flight holds WE_n low exactly when it is a WRITE_BYTE with its settle delay and one to P_WE_TICKS ticks
more to go (R33, R141). -/
theorem weN_low_iff (h : s.SequencerOk) (hs : s.inFlight) :
    s.weN = false ↔ s.op = 3#2 ∧ s.cfg.pSettleTicks < s.ticksToDone ∧
      s.ticksToDone ≤ s.cfg.pWeTicks + s.cfg.pSettleTicks := by
  obtain ⟨hidle, hfault⟩ := hs
  obtain ⟨-, -, hwe⟩ := h.lines
  have hidx := h.idx
  have hop := h.op
  obtain ⟨-, hlow, hsettle⟩ := h.timer
  rw [hwe]
  cases hst : s.state <;> simp only [State.ticksToDone, hst, reduceCtorEq, false_iff, true_iff]
  case idle => exact absurd hst hidle
  case fault => exact absurd hst hfault
  case dirIn | rdWait | rdSample =>
    have ho : s.op = 2#2 := by simpa [State.opOk, hst] using hop
    simp [ho]
  case shift | latch =>
    rintro ⟨ho, -, hle⟩
    rw [latchToDone_write ho] at hle
    omega
  case wrDrive =>
    have hk : s.idx.toNat ≤ 7 := by simpa [State.idxOk, hst] using hidx
    omega
  case wrWeLow =>
    have ho : s.op = 3#2 := by simpa [State.opOk, hst] using hop
    have := hlow hst
    exact ⟨ho, by omega, by omega⟩
  case wrSettle =>
    have := hsettle hst
    omega
  all_goals omega

/-- A move of a request in flight, but for DONE's, leaves a request in flight, with its OP (R24). -/
theorem Moves.inFlight (hm : Moves inp s u) (hs : s.inFlight) (hd : s.state ≠ .done) : u.inFlight ∧ u.op = s.op := by
  obtain ⟨hidle, hfault⟩ := hs
  refine ⟨?_, ?_⟩
  · cases hm <;> simp_all [State.inFlight]
  · rcases hm.request_registers with ⟨ho, -⟩ | ⟨h, -⟩
    · exact ho
    · exact absurd h hidle

end

/-! ### A request in flight over a device that takes steps -/

/-- Before its write edge, a request that found the device with nothing pending has nothing pending still (R56). -/
abbrev State.quietBeforeEdge (s : State) : Prop := s.state ≠ .wrSettle → s.state ≠ .done → s.pending = none

/-- A request of kind `op` is in flight over a device that takes steps, and needs `n` more ticks to DONE. -/
structure State.InProgress (op : BitVec 2) (n : Nat) (s : State) : Prop where
  inv : s.Inv
  configValid : s.cfg.valid = true
  deviceSteps : s.deviceStuck = false
  quiet : s.quietBeforeEdge
  flight : s.inFlight
  op : s.op = op
  ticks : s.ticksToDone = n

variable {inp : Input} {s u : State} {op : BitVec 2}

/-- A move of such a request leaves the device taking steps: the one write edge finds nothing pending (R56, R57). -/
theorem Moves.device_of_quiet (hm : Moves inp s u) (hs : s.state ≠ .done) (hd : s.deviceStuck = false)
    (hq : s.quietBeforeEdge) : u.deviceStuck = false ∧ (endTick s.pending u).quietBeforeEdge := by
  rcases hm.device_cases with ⟨hlow, rfl⟩ | ⟨-, hpend, hstuck⟩
  · have hp : s.pending = none := hq (by simp [hlow]) (by simp [hlow])
    obtain ⟨d, -, he⟩ := memWrite_quiet (s := State.emit { s with timer := 0#32 } .weRise) hd hp
    exact ⟨by rw [weLowExit_eq, he]; exact hd, fun hne => absurd (by simp) hne⟩
  · refine ⟨hstuck.trans hd, fun hne hne' => ?_⟩
    rw [endTick_state] at hne hne'
    have hp : s.pending = none := hq (fun h => by cases hm <;> simp_all) hs
    rw [endTick_pending, settle_of_none _ hp, hpend, hp]

theorem Moves.inputs_eq (hm : Moves inp s u) : u.inputs = s.inputs := by
  cases hm <;> simp

/-- One tick of such a request, without RESET (R190). -/
theorem State.InProgress.step {n : Nat} (h : s.InProgress op (n + 1)) (hr : s.input.reset = false) :
    ∃ t, step s = .next t ∧ t.InProgress op n ∧ t.inputs = s.inputs.drop 1 := by
  obtain ⟨hseq, -⟩ := inv_iff.mp h.inv
  have hdone : s.state ≠ .done := fun hs => by simpa [h.ticks] using (ticksToDone_eq_zero_iff hseq h.flight).mpr hs
  obtain ⟨t, hstep⟩ := stepIsTotalOnTheInvariant s h.inv h.configValid
  have hinv := stepKeepsTheInvariant s t h.inv hstep
  obtain ⟨hv, ⟨hr', -⟩ | ⟨-, hd, -⟩ | ⟨-, hd, u, hm, rfl⟩⟩ := step_moves hstep
  · exact absurd (hr.symm.trans hr') (by decide)
  · exact absurd (h.deviceSteps.symm.trans hd) (by decide)
  · obtain ⟨hflight, hop⟩ := hm.inFlight h.flight hdone
    obtain ⟨hsteps, hquiet⟩ := hm.device_of_quiet hdone hd h.quiet
    have hticks : u.ticksToDone + 1 = s.ticksToDone := hm.ticksToDone hv hseq.op hseq.timer h.flight hdone
    rw [h.ticks] at hticks
    refine ⟨_, hstep, ⟨hinv, ?_, ?_, hquiet, ?_, ?_, ?_⟩, ?_⟩
    · rw [endTick_cfg, hm.cfg_eq]
      exact hv
    · rw [endTick_deviceStuck, hsteps]
    · simpa [State.inFlight] using hflight
    · rw [endTick_op, hop]
      exact h.op
    · rw [endTick_eq]
      exact Nat.succ.inj hticks
    · rw [endTick_inputs, hm.inputs_eq, takeInput_inputs, List.drop_one]

/-- Ticks of such a request without RESET, up to DONE (R190). -/
theorem State.InProgress.run {n k : Nat} (h : s.InProgress op n) (hr : s.noReset k) (hk : k ≤ n) :
    ∃ t, run k s = .next t ∧ t.InProgress op (n - k) ∧ t.inputs = s.inputs.drop k := by
  induction k generalizing s n with
  | zero => exact ⟨s, rfl, h, rfl⟩
  | succ k ih =>
    obtain ⟨m, rfl⟩ := Nat.exists_eq_add_of_le' (Nat.lt_of_lt_of_le (Nat.succ_pos k) hk)
    obtain ⟨s', hstep, hs', hin⟩ := h.step (input_reset_of_noReset hr)
    obtain ⟨t, hrun, ht, hin'⟩ := ih hs' (noReset_drop (by rwa [Nat.add_comm]) hin) (by omega)
    exact ⟨t, (run_succ k hstep).trans hrun, by rwa [Nat.add_sub_add_right],
      by rw [hin', hin, List.drop_drop, Nat.add_comm 1 k]⟩

/-! ### From the acceptance on -/

/-- An accepted request is in flight, with one tick less than its count to go (R125, R190). -/
theorem acceptOf_ticksToDone {i : Instr} (h : s.ReadyOver i) :
    (acceptOf i s).inFlight ∧ (acceptOf i s).op = i.opcode ∧ (acceptOf i s).ticksToDone + 1 = busyTicks s.cfg i := by
  cases i with
  | setaddr a e =>
    rw [acceptOf_setaddr h.checksPass]
    exact ⟨⟨nofun, nofun⟩, rfl, rfl⟩
  | rdb a =>
    rw [acceptOf_rdb h.checksPass]
    refine ⟨⟨nofun, nofun⟩, rfl, ?_⟩
    simp only [State.ticksToDone, busyTicks]
    omega
  | wrb a v =>
    rw [acceptOf_wrb h.checksPass]
    refine ⟨⟨nofun, nofun⟩, rfl, ?_⟩
    simp only [State.ticksToDone, busyTicks]
    omega

/-- The accepting tick of a request that is ready leaves it in progress (R125, R190). -/
theorem accepted_inProgress {i : Instr} (hinv : s.Inv) (h : s.ReadyFor i) :
    ∃ t n, Machine.run 1 s = .next t ∧ t.InProgress i.opcode n ∧ n + 1 = busyTicks s.cfg i ∧
      t.inputs = s.inputs.drop 1 := by
  have hu := h.undisturbed (.inl h.nothingPending)
  obtain ⟨hrun, ht⟩ := leads_accept h.toReadyOver (busyTicks s.cfg i) (by rwa [Nat.add_comm])
  have hseq := sequencerOnly_accept i
  have hp : (acceptOf i s).pending = none := (hseq.pending s).trans h.nothingPending
  obtain ⟨hflight, hop, hticks⟩ := acceptOf_ticksToDone h.toReadyOver
  refine ⟨_, _, hrun, ⟨inv_of_run hinv hrun, ht.configValid, ht.deviceSteps, fun _ _ => ?_, hflight, hop, rfl⟩,
    hticks, ?_⟩
  · rw [elapse_quiet hp]
    exact hp
  · rw [elapse_quiet hp, State.afterTicks, hseq.inputs]

/-- After `k` ticks a request that is ready is in progress, up to its DONE tick (R190). -/
theorem ready_inProgress {i : Instr} {k : Nat} (hinv : s.Inv) (h : s.ReadyFor i) (hpos : 1 ≤ k)
    (hk : k ≤ busyTicks s.cfg i) :
    ∃ u, Machine.run k s = .next u ∧ u.InProgress i.opcode (busyTicks s.cfg i - k) ∧
      u.inputs = s.inputs.drop k := by
  obtain ⟨j, rfl⟩ := Nat.exists_eq_add_of_le hpos
  obtain ⟨t, n, hrun, ht, hn, hin⟩ := accepted_inProgress hinv h
  have hreset : s.noReset (1 + j) := noReset_of_le h.notReset (by omega)
  obtain ⟨u, hrun', hu, hin'⟩ := ht.run (noReset_drop hreset hin) (by omega)
  have hticks : busyTicks s.cfg i - (1 + j) = n - j := by omega
  exact ⟨u, (run_add j hrun).trans hrun', by rwa [hticks], by rw [hin', hin, List.drop_drop]⟩

/-- The outputs of a request in progress, by the ticks that it has to go (R35, R141). -/
theorem State.InProgress.outputs {n : Nat} (h : s.InProgress op n) :
    s.busy = true ∧ (s.isDone = true ↔ n = 0) ∧
      (s.weN = false ↔ op = 3#2 ∧ s.cfg.pSettleTicks < n ∧ n ≤ s.cfg.pWeTicks + s.cfg.pSettleTicks) := by
  obtain ⟨hseq, -⟩ := inv_iff.mp h.inv
  obtain ⟨-, hbusy, hdone, -⟩ := statusOutputsFollowTheState s
  have hzero := ticksToDone_eq_zero_iff hseq h.flight
  have hlow := weN_low_iff hseq h.flight
  rw [h.ticks] at hzero
  rw [h.ticks, h.op] at hlow
  exact ⟨hbusy.mpr h.flight, hdone.trans hzero.symm, hlow⟩

/-- The tick of DONE leaves the request port ready (R133). -/
theorem State.InProgress.last (h : s.InProgress op 0) (hr : s.input.reset = false) :
    ∃ t, Machine.step s = .next t ∧ t.busy = false ∧ t.ready = true := by
  obtain ⟨hseq, -⟩ := inv_iff.mp h.inv
  have hdone := (ticksToDone_eq_zero_iff hseq h.flight).mp h.ticks
  exact ⟨_, step_done h.configValid hr h.deviceSteps hdone, by simp [State.busy], by simp [State.ready]⟩

/-- Settles O56: after the accepting tick the request is in progress, and there the ticks to go tell DONE and the write
pulse; the tick of DONE leads to IDLE. -/
theorem busyTicksAreThoseOfTheTable : Obligations.BusyTicksAreThoseOfTheTable := by
  intro s i hinv h
  refine ⟨fun k hpos hk => ?_, ?_⟩
  · obtain ⟨u, hrun, hu, -⟩ := ready_inProgress hinv h hpos hk
    obtain ⟨hbusy, hdone, hlow⟩ := hu.outputs
    refine ⟨u, hrun, hbusy, hdone.trans (by omega), hlow.trans ?_⟩
    rw [cfg_of_run hrun, Instr.opcode_eq_write_iff]
    refine and_congr_right fun ⟨a, v, hi⟩ => ?_
    have hticks : busyTicks s.cfg i = 27 + s.cfg.pWeTicks + s.cfg.pSettleTicks := by rw [hi, busyTicks]
    omega
  · have hpos : 1 ≤ busyTicks s.cfg i := by
      cases i <;> simp only [busyTicks] <;> omega
    obtain ⟨u, hrun, hu, hin⟩ := ready_inProgress hinv h hpos (Nat.le_refl _)
    rw [Nat.sub_self] at hu
    obtain ⟨t, hstep, hready⟩ := hu.last (input_reset_of_noReset (noReset_drop h.notReset hin))
    exact ⟨t, (run_add 1 hrun).trans (run_succ 0 hstep), hready⟩

end Machine

end Sys2Proof
end

section
/-! Faults (R150 to R157): the words of ILLEGAL_REQUEST, the addresses of ADDR_RANGE, what a fault entry writes and when it
happens, and how FAULT is left. -/

namespace Sys2Proof

/-- The words of R155 are those that are not legal: every word has one of four OPs, and each asks for its own zero
fields. -/
theorem illegalWord_iff {w : Word} :
    legalWord w ≠ true ↔
      opField w = 0#2 ∨ rsvField w ≠ 0#5 ∨ ((opField w = 2#2 ∨ opField w = 3#2) ∧ enableField w = true) ∨
        ((opField w = 1#2 ∨ opField w = 2#2) ∧ valueField w ≠ 0#8) := by
  have hops : ∀ o : BitVec 2, o = 0#2 ∨ o = 1#2 ∨ o = 2#2 ∨ o = 3#2 := by decide
  rw [ne_eq, legalWord_iff]
  rcases hops (opField w) with hop | hop | hop | hop
  · simp [hop]
  · simp [hop, imp_iff_not_or]
  · simp [hop, imp_iff_not_or]
  · simp [hop, imp_iff_not_or]

namespace Machine

variable {s : State}

/-! ### Fault entry (R125, R152) -/

/-- What a fault entry makes of the state: its two events, its code and FAULT, over a state that is otherwise as the tick
found it (R152). -/
theorem raiseFault_accepted (e : Event) (code : BitVec 2) (s : State) :
    raiseFault code (s.emit e) =
      { s with trace := s.trace ++ [e, .fault code], faultCode := code, state := .fault } := by
  simp [raiseFault, State.emit]

/-- A move enters FAULT only from IDLE on a presented request, by one of the faults of R150. -/
theorem Moves.fault_entry {inp : Input} {u : State} (hm : Moves inp s u) (hu : u.state = .fault)
    (hs : s.state ≠ .fault) :
    s.state = .idle ∧ inp.reqValid = true ∧
      ∃ op a e v code, code ≠ 0#2 ∧ u = raiseFault code (s.emit (.accept op a e v)) := by
  cases hm
  case idle | fault => exact absurd hu hs
  case illegal hidle hq _ _ => exact ⟨hidle, hq, _, _, _, _, illegalRequest, by decide, rfl⟩
  case contention hidle hq _ _ _ _ => exact ⟨hidle, hq, _, _, _, _, busContention, by decide, rfl⟩
  case readRange hidle hq _ _ _ => exact ⟨hidle, hq, _, _, _, _, addrRange, by decide, rfl⟩
  case writeRange hidle hq _ _ _ _ => exact ⟨hidle, hq, _, _, _, _, addrRange, by decide, rfl⟩
  -- Every other move names its next state, or stays in a state that is not FAULT.
  all_goals exact absurd hu (by simp [*])

/-- The same for a whole step, whose end of the tick follows the entry (R120, R151). -/
theorem step_fault_entry {t : State} (h : step s = .next t) (ht : t.state = .fault) (hs : s.state ≠ .fault) :
    s.state = .idle ∧ s.input.reqValid = true ∧ s.input.reset = false ∧
      ∃ op a e v code, code ≠ 0#2 ∧
        t = endTick s.pending (raiseFault code (s.takeInput.emit (.accept op a e v))) := by
  obtain ⟨-, ⟨-, rfl⟩ | ⟨-, -, rfl⟩ | ⟨hr, -, u, hm, rfl⟩⟩ := step_moves h
  · simp at ht
  · exact absurd ht hs
  · obtain ⟨hidle, hq, op, a, e, v, code, hcode, hu⟩ := hm.fault_entry (by simpa using ht) hs
    exact ⟨hidle, hq, hr, op, a, e, v, code, hcode, congrArg (endTick s.pending) hu⟩

/-! ### The end of a tick that left the lines and the device alone -/

/-- Where nobody contends, the end of a tick is the device countdown (R120 steps 3 and 4). -/
theorem endTick_not_contending (p : Option PendingWrite) (hn : s.contending = false) :
    endTick p s = (s.settle p).countTick := by
  have hquiet : (s.settle p).contending = false := by simpa [State.contending, State.oeN] using hn
  rw [endTick, noteContention_quiet hquiet]

/-- The countdown depends on the device, the configuration and the tick only (R57). -/
theorem settle_device_congr {u : State} (hcfg : u.cfg = s.cfg) (hd : u.deviceStuck = s.deviceStuck)
    (hticks : u.ticks = s.ticks) (hmem : u.mem = s.mem) (hpending : u.pending = s.pending)
    (p : Option PendingWrite) :
    (u.settle p).mem = (s.settle p).mem ∧ (u.settle p).pending = (s.settle p).pending := by
  cases p with
  | none => exact ⟨hmem, hpending⟩
  | some p =>
    simp only [State.settle, State.commit, State.retained, hcfg, hd, hticks, hmem]
    split
    · exact ⟨hmem, hpending⟩
    · split
      · exact ⟨rfl, rfl⟩
      · exact ⟨rfl, rfl⟩

/-- Settles O21: the entry writes its events, its code and FAULT; nobody contends, so the countdown alone follows. -/
theorem faultEntryDiscardsTheRestOfTheTick : Obligations.FaultEntryDiscardsTheRestOfTheTick := by
  intro s t hs hn hstep ht
  obtain ⟨-, -, -, op, a, e, v, code, hcode, rfl⟩ := step_fault_entry hstep ht (by simp [hs])
  refine ⟨⟨op, a, e, v, code, hcode, ?_⟩, by simp [State.isFault], by simp [State.ready], by simp [State.busy],
    by simp [State.isDone], rfl, by simp, by simp, by simp⟩
  rw [raiseFault_accepted]
  exact endTick_not_contending _ hn

/-- Settles O22: only a fault entry leads into FAULT, and it leaves all but its code, FAULT and the trace to the
countdown. -/
theorem faultIsRaisedOnlyAtAcceptance : Obligations.FaultIsRaisedOnlyAtAcceptance := by
  intro s t hstep ht hs
  obtain ⟨hidle, hq, hr, op, a, e, v, code, -, rfl⟩ := step_fault_entry hstep ht hs
  obtain ⟨hmem, hpending⟩ :=
    settle_device_congr (s := s) (u := raiseFault code (s.takeInput.emit (.accept op a e v))) rfl rfl rfl rfl rfl
      s.pending
  exact ⟨hidle, hq, hr, by simp, by simp, by simp, by simp, by simp, by simp, by simp,
    (endTick_mem _ _).trans hmem, (endTick_pending _ _).trans hpending⟩

/-! ### ILLEGAL_REQUEST (R155) -/

/-- A request that decodes raises another fault than ILLEGAL_REQUEST, or none (R155 to R157). -/
theorem acceptOf_not_illegalRequest (i : Instr) (s : State) :
    ¬ ((acceptOf i s).state = .fault ∧ (acceptOf i s).faultCode = illegalRequest) := by
  cases i with
  | setaddr a e =>
    rcases acceptSetaddr_cases a e s with ⟨-, he⟩ | ⟨-, he⟩ <;>
      simp [acceptOf, he, illegalRequest, busContention]
  | rdb a =>
    rcases acceptRdb_cases a s with ⟨-, he⟩ | ⟨-, he⟩ <;> simp [acceptOf, he, illegalRequest, addrRange]
  | wrb a v =>
    rcases acceptWrb_cases a v s with ⟨-, he⟩ | ⟨-, he⟩ <;> simp [acceptOf, he, illegalRequest, addrRange]

/-- Settles O20: the words of the rule are the illegal ones, which raise ILLEGAL_REQUEST; a legal word is a request. -/
theorem illegalWordsRaiseIllegalRequest : Obligations.IllegalWordsRaiseIllegalRequest := by
  intro s w hv hd hs hin
  have hr : s.input.reset = false := by rw [hin]
  have hq : s.input.reqValid = true := by rw [hin]
  by_cases hlegal : legalWord w = true
  · obtain ⟨i, hi⟩ := decodes_iff_legalWord.mpr hlegal
    refine ⟨_, step_accept hv hr hd hs hq (by rw [hin]; exact hi), iff_of_false ?_ ?_⟩
    · simpa [illegalRequest] using acceptOf_not_illegalRequest i s.takeInput
    · exact fun hrule => illegalWord_iff.mpr hrule hlegal
  · refine ⟨_, step_illegal hv hd hs hr hq (by rw [hin]; exact hlegal), iff_of_true ?_ ?_⟩
    · simp [illegalRequest]
    · exact illegalWord_iff.mp hlegal

/-! ### ADDR_RANGE (R156) -/

theorem acceptOf_rdb_above {a : Half} (h : s.cfg.maxAddr < a) :
    acceptOf (.rdb a) s = { s with
      trace := s.trace ++ [.accept 2#2 a false 0#8, .fault 2#2], faultCode := 2#2, state := .fault } :=
  (if_pos h).trans (raiseFault_accepted _ addrRange s)

theorem acceptOf_wrb_above {a : Half} {v : Byte} (h : s.cfg.maxAddr < a) :
    acceptOf (.wrb a v) s = { s with
      trace := s.trace ++ [.accept 3#2 a false v, .fault 2#2], faultCode := 2#2, state := .fault } :=
  (if_pos h).trans (raiseFault_accepted _ addrRange s)

/-- Settles O19: the bound named for each variant is its MAX_ADDR. -/
theorem addressAboveTheRangeRaisesAddrRange : Obligations.AddressAboveTheRangeRaisesAddrRange := by
  intro a v s hs hbound
  have habove : s.cfg.maxAddr < a := by
    rcases hbound with ⟨hvariant, ha⟩ | ⟨hvariant, ha⟩
    · rwa [Config.maxAddr, hvariant]
    · rwa [Config.maxAddr, hvariant]
  rw [exec_idle _ hs, exec_idle _ hs, acceptOf_rdb_above habove, acceptOf_wrb_above habove]
  exact ⟨rfl, rfl⟩

/-! ### The FAULT state (R153) -/

/-- Settles O23: FAULT's own action is none, a stuck tick is none either, and a reset tick writes STATE and FAULT_CODE
from any state. -/
theorem faultIsLeftOnlyByReset : Obligations.FaultIsLeftOnlyByReset := by
  intro s hv hs hn
  refine ⟨fun hr => ?_, fun hr => ⟨_, step_reset hv hr, by simp, by simp⟩⟩
  cases hd : s.deviceStuck
  · have hown : ownAction s.takeInput = .next s.takeInput := by simp [ownAction, hs]
    rw [step_own hv hr hd (by simp [hs]) hown, endTick_not_contending (s := s.takeInput) _ hn]
  · rw [step_stuck hv hr hd, stuckTick_eq, settle_of_stuck (s := s.takeInput) hd]

end Machine

end Sys2Proof
end

section
/-! Power loss (R176): which cells it changes, and the state of the next launch. -/

namespace Sys2Proof.Machine

/-! ### Cells that are cut off -/

/-- From `m` to `m'` just the cells of `C` were cut off: each of them holds a free value, every other cell reads as
before (R176). -/
def CutsOnly (C : Nat → Prop) (m m' : Memory) : Prop :=
  ∀ a, (¬ C a → m'.read a = m.read a) ∧ (C a → ∃ n, m'.read a = Config.drawLoss n)

theorem CutsOnly.refl {C : Nat → Prop} (h : ∀ a, ¬ C a) (m : Memory) : CutsOnly C m m :=
  fun a => ⟨fun _ => rfl, fun ha => absurd ha (h a)⟩

/-- One cut after another: a cell that the second one spares is as the first one left it. -/
theorem CutsOnly.trans {C D : Nat → Prop} {m m' m'' : Memory} (h : CutsOnly C m m') (h' : CutsOnly D m' m'') :
    CutsOnly (fun a => C a ∨ D a) m m'' := by
  intro a
  obtain ⟨hkept, hcut⟩ := h a
  obtain ⟨hkept', hcut'⟩ := h' a
  refine ⟨fun hn => ?_, fun hcd => ?_⟩
  · obtain ⟨hc, hd⟩ := not_or.mp hn
    exact (hkept' hd).trans (hkept hc)
  · by_cases hd : D a
    · exact hcut' hd
    · obtain ⟨n, hn⟩ := hcut (hcd.resolve_right hd)
      exact ⟨n, (hkept' hd).trans hn⟩

variable {s : State}

theorem loseCell_cutsOnly {limit : Nat} (h : Memory.wf limit s.mem = true) (b : BitVec 15) :
    CutsOnly (fun a => b.toNat = a) s.mem (s.loseCell b).mem := by
  refine fun a => ⟨fun hne => read_write_other h _ (Ne.symm hne), ?_⟩
  rintro rfl
  exact ⟨s.ticks, read_write_same h _ _⟩

/-! ### The two cuts of a power loss -/

/-- The cut of the pending write changes cells and draws a free value, and nothing else. -/
theorem losePending_eq (s : State) :
    s.losePending = { s with mem := s.losePending.mem, ticks := s.losePending.ticks } := by
  unfold State.losePending
  split <;> rfl

@[simp] theorem losePending_writeCut : s.losePending.writeCut = s.writeCut := by
  rw [losePending_eq]; rfl

@[simp] theorem losePending_devAddr : s.losePending.devAddr = s.devAddr := by
  rw [losePending_eq]; rfl

theorem losePending_cutsOnly (h : s.memOk) :
    CutsOnly (fun a => ∃ p ∈ s.pending, p.addr.toNat = a) s.mem s.losePending.mem := by
  unfold State.losePending
  split
  · next hp => exact .refl (by simp [hp]) _
  · next p hp => simpa [hp] using loseCell_cutsOnly h.1 p.addr

/-- A pending write is to a cell that exists, so its cut keeps the canonical form (R36, R37). -/
theorem losePending_wf (h : s.memOk) : Memory.wf s.cfg.maxAddr.toNat s.losePending.mem = true := by
  obtain ⟨hwf, hpending⟩ := h
  unfold State.losePending
  split
  · exact hwf
  · next p hp => exact wf_write hwf _ (hpending p hp).1

theorem writeCut_iff : s.writeCut = true ↔ s.state = .wrWeLow ∨ s.state = .wrSettle ∨ s.deviceStuck = true := by
  simp [State.writeCut, or_assoc]

theorem loseInFlight_cutsOnly {limit : Nat} (h : Memory.wf limit s.mem = true) :
    CutsOnly (fun a => s.writeCut = true ∧ s.devAddr.toNat = a) s.mem s.loseInFlight.mem := by
  unfold State.loseInFlight
  split
  · next hw => simpa [hw] using loseCell_cutsOnly h s.devAddr
  · next hw => exact .refl (by simp [hw]) _

/-- Settles O46: the pending write is cut first and the one in flight after it, whose cell the first cut leaves at
DEVADDR; a power-up brings the premise of a launch and takes the cells as they are. -/
theorem powerLossCutsOnlyTheWriteInFlight : Obligations.PowerLossCutsOnlyTheWriteInFlight := by
  intro s ins h
  obtain ⟨-, hdev⟩ := inv_iff.mp h
  refine ⟨⟨rfl, rfl, rfl, rfl, rfl⟩, rfl, ?_⟩
  have hcuts := (losePending_cutsOnly hdev.mem).trans (loseInFlight_cutsOnly (losePending_wf hdev.mem))
  simp only [losePending_writeCut, losePending_devAddr, writeCut_iff] at hcuts
  exact hcuts

end Sys2Proof.Machine
end
